-- ==== Sys2Proof/Word.lean ====
section
/-! DEFINITION. The plain value types of the GX28: a byte of a message, a colour or pixel of three components, and the
exact-integer arithmetic of R1. -/

namespace Sys2Proof

/-- One byte of a request, a reply or image memory. -/
abbrev Byte := BitVec 8

/-- A colour, or one pixel in the store's form: three components, each meant to lie in 0..1023 (R1). -/
structure Colour where
  c0 : Nat
  c1 : Nat
  c2 : Nat
  deriving DecidableEq, Repr

/-- All three components 0. -/
def Colour.black : Colour := ⟨0, 0, 0⟩

/-- `ceil(a/b)` for positive b (R1). -/
def ceilDiv (a b : Nat) : Nat := (a + b - 1) / b

/-- `ceil(a/b)` of a signed dividend, for positive b (R1). -/
def ceilDivInt (a : Int) (b : Nat) : Int := -((-a) / (b : Int))

/-- `clamp(v, lo, hi)`: lo when v is below lo, hi when v is above hi (R1). -/
def clampInt (v lo hi : Int) : Int := if v < lo then lo else if hi < v then hi else v

/-- A saturating count: one more, but never above `top` (R1, Counters). -/
def satAdd (top n k : Nat) : Nat := min top (n + k)

end Sys2Proof
end

