-- ==== Sys2Proof/Syntax.lean ====
section
/-! DEFINITION. The commands of the GX28: one constructor of `Instr` per row of spec/opcode_table.json.

The GX28 is a block: its rows are the occurrences on its pins, the occurrences its own clock brings, and the processing
of the requests its control port holds. Operands:

* `t` is the tick of REFCLK (R1, R2) at which an occurrence reaches the part from outside, or at which a request is
  processed. The model's clock never runs back: such a command is taken at the later of `t` and the clock
  (assumption 1).
* A command with no `t` is brought by the part's own clock. It falls at the tick the state holds for it (a launch time,
  a scan end, a timer's end), and does nothing when the state holds none (assumptions 2, 3).
* A request's command carries no parameters: they are those of the request in processing (R164). -/

namespace Sys2Proof

/-- The source pixel formats (R178): full chroma, or chroma halved horizontally. -/
inductive Format
  | full
  | half
  deriving DecidableEq, Repr

/-- The source depths (R178): 8 or 10 bits a component. -/
inductive Depth
  | d8
  | d10
  deriving DecidableEq, Repr

/-- The thirty wires of one pixel input lane (R182): three 10-bit components, as they stand on the wires. -/
structure RawPixel where
  c0 : BitVec 10
  c1 : BitVec 10
  c2 : BitVec 10
  deriving DecidableEq, Repr

/-- The instants of a transaction on the control port's wires (R157): the fall of CS_N; a rising edge of SCK, with the level of
SDI sampled at it; a falling edge of SCK; whole periods of SCK, each a rising edge and the falling edge after it; and the
rise of CS_N. The bits, their bytes, the kind and the request are read from these by the port itself. -/
inductive WireEvent
  | fall
  | sckRise (sdi : Bool)
  | sckFall
  | clocks (sdi : List Bool)
  | rise
  deriving DecidableEq, Repr

/-- The commands: one constructor per row of spec/opcode_table.json, in the table's order. -/
inductive Instr
  /-- EXTERNAL_RESET (R170). `csLow`: CS_N is low when RESET_N rises (R157). -/
  | externalReset (t : Nat) (csLow : Bool)
  /-- STARTUP_COMPLETE (R162). -/
  | startupComplete (t : Nat)
  /-- SOURCE_FRAME_START (R13), with SIGNAL_OK and the indications as they stand at the frame marker. -/
  | sourceFrameStart (t : Nat) (signalOk : Bool) (format : Format) (depth : Depth) (vrr game : Bool)
  /-- LINE_START (R2). -/
  | lineStart (t : Nat)
  /-- ACTIVE_LINE_START (R91). `storeFirst`: the line store takes the arrival before the monitor tests for a change;
  R91 allows either order. -/
  | activeLineStart (t : Nat) (storeFirst : Bool)
  /-- PIXEL_TRANSFER (R92): the four lanes of one transfer, each with a pixel when its own data-enable is high (R182). -/
  | pixelTransfer (t : Nat) (lane0 lane1 lane2 lane3 : Option RawPixel)
  /-- LINE_COMPLETE (R93): a fall of data-enable. -/
  | lineComplete (t : Nat)
  /-- SIGNAL_OK_FALL (R12). -/
  | signalOkFall (t : Nat)
  /-- FRAME_START_TIMER_EXPIRY (R12). -/
  | frameStartTimerExpiry
  /-- LIVE_LAUNCH (R71). -/
  | liveLaunch
  /-- PREDICTED_REDRAW (R73). -/
  | predictedRedraw
  /-- PERIODIC_LAUNCH (R66). -/
  | periodicLaunch
  /-- FORCED_DEADLINE (R64). -/
  | forcedDeadline
  /-- HOLD_TIMER_EXPIRY (R79). -/
  | holdTimerExpiry
  /-- REST_TIMER_EXPIRY (R80, R81). -/
  | restTimerExpiry
  /-- PANEL_LINE_START (R95, R112): the next active panel line of the frame in progress begins. -/
  | panelLineStart
  /-- SCAN_END (R116). -/
  | scanEnd
  /-- TRAIL_END (R116). -/
  | trailEnd
  /-- SWITCH_END (R119). `stageFirst`: the switch end is delivered to the Change Stage before the Frame Pacer; R119
  allows either order. -/
  | switchEnd (stageFirst : Bool)
  /-- POST (R160). What the transaction is, the port reads from SDI (R159): the row named does not decide it. -/
  | post (t : Nat) (ev : WireEvent)
  /-- MALFORMED_POST (R161). -/
  | malformedPost (t : Nat) (ev : WireEvent)
  /-- FETCH (R166). -/
  | fetch (t : Nat) (ev : WireEvent)
  /-- STATUS_ONLY (R159). -/
  | statusOnly (t : Nat) (ev : WireEvent)
  /-- UNKNOWN_CODE (R164): the processing of a request whose code is not known. -/
  | unknownCode (t : Nat)
  /-- ECHO, 10h (R167). -/
  | echo (t : Nat)
  /-- IDENTIFY, 11h (R168). -/
  | identify (t : Nat)
  /-- START, 12h (R83). -/
  | start (t : Nat)
  /-- STANDBY, 13h (R82). -/
  | standby (t : Nat)
  /-- WAKE, 14h (R84). -/
  | wake (t : Nat)
  /-- RESET_PART, 15h (R169). -/
  | resetPart (t : Nat)
  /-- EVENT_MASK, 16h (R175). -/
  | eventMask (t : Nat)
  /-- EVENT_READ, 17h (R174). -/
  | eventRead (t : Nat)
  /-- GROUP_OPEN, 18h (R154). -/
  | groupOpen (t : Nat)
  /-- GROUP_CLOSE, 19h (R155). -/
  | groupClose (t : Nat)
  /-- CAT_STORE, 20h (R23). -/
  | catStore (t : Nat)
  /-- CAT_RETIRE, 21h (R24). -/
  | catRetire (t : Nat)
  /-- CAT_READ, 22h (R39). -/
  | catRead (t : Nat)
  /-- CAT_STATS, 23h (R40). -/
  | catStats (t : Nat)
  /-- CAT_FIND, 24h (R41). -/
  | catFind (t : Nat)
  /-- CAT_LOCK, 25h (R27). -/
  | catLock (t : Nat)
  /-- CAT_LIST, 26h (R42). -/
  | catList (t : Nat)
  /-- WIN_DEFINE, 30h (R125). -/
  | winDefine (t : Nat)
  /-- WIN_PLACE, 31h (R127). -/
  | winPlace (t : Nat)
  /-- WIN_SHOW, 32h (R128). -/
  | winShow (t : Nat)
  /-- WIN_RETIRE, 33h (R129). -/
  | winRetire (t : Nat)
  /-- WIN_READ, 34h (R144). -/
  | winRead (t : Nat)
  /-- IMG_WRITE, 35h (R136). -/
  | imgWrite (t : Nat)
  /-- IMG_READ, 36h (R138). -/
  | imgRead (t : Nat)
  /-- PROFILE_SET, 40h (R107). -/
  | profileSet (t : Nat)
  /-- PROFILE_READ, 41h (R109). -/
  | profileRead (t : Nat)
  /-- SET_TIMERS, 42h (R85). -/
  | setTimers (t : Nat)
  /-- SET_FILL, 43h (R121). -/
  | setFill (t : Nat)
  /-- OBSERVE, 50h (R17). -/
  | observe (t : Nat)
  /-- PACING_READ, 51h (R86). -/
  | pacingRead (t : Nat)
  /-- CS_N_SEEN_HIGH (R157). -/
  | csnSeenHigh (t : Nat)
  deriving DecidableEq, Repr

end Sys2Proof
end

