-- ==== Sys2Proof/Decode.lean ====
section
/-! DEFINITION. Decoding. The rows of spec/opcode_table.json are commands of a block and carry no bits, so no word spells
one. -/

namespace Sys2Proof

/-- The command a word spells by the table's bits: none, for no row gives any (assumption 6). -/
def decodeTableWord (_nbits _w : Nat) : Option Instr := none

end Sys2Proof
end

