-- ==== Sys2Proof/Config.lean ====
section
/-! DEFINITION. The sizes the GX28 fixes (R168 and the sections that own them), and the one value the manual leaves
open. -/

namespace Sys2Proof.Config

/-- Catalogue slots (R168). -/
def catalogueSlots : Nat := 48
/-- Window records (R168). -/
def windowRecords : Nat := 16
/-- Image memory pages (R168). -/
def imagePages : Nat := 128
/-- Bytes in a page of image memory (R135). -/
def pageBytes : Nat := 2048
/-- Bytes of image memory (R135); the value 262,144 of the write pointer means the end of memory (R137). -/
def imageBytes : Nat := 262144
/-- Line slots (R168). -/
def lineSlots : Nat := 128
/-- The capacity the request and reply queues share (R163). -/
def portCapacity : Nat := 8
/-- The most edits the stage holds (R146). -/
def stageCapacity : Nat := 16
/-- The largest parameter and data length (R168). -/
def maxLength : Nat := 96
/-- Panel profiles (R106). -/
def profileCount : Nat := 4
/-- Ticks in a tenth of a second (R76, R80). -/
def tenthTicks : Nat := 10000000
/-- The frame-start timer's length, and the cap of a recorded period (R12, R14). -/
def frameTimeout : Nat := 10000000
/-- The largest value of a 32-bit counter (R29). -/
def max32 : Nat := 4294967295

/-- FREE VALUE (assumption 8). The rate of R142 is `(1,000,000,000 + P div 2) div P`. An estimate P of 0 ticks is
possible (two source frame starts on one tick), and R142 gives no result for a division by 0. The quotient for the
given dividend is left open: nothing constrains it. -/
opaque rateOfZeroPeriod (dividend : Nat) : Nat

end Sys2Proof.Config
end

