-- ==== Sys2Proof/Machine/State.lean ====
section
/-! DEFINITION. The state of the GX28: what the spec gives each of its ten blocks (section 0.3), the model's clock, and the
queue of waiting commands. Plain data throughout. Reset values are those of R18, R43, R45, R87, R105, R122, R145, R156,
R170 and R176. -/

namespace Sys2Proof.Machine

/-- Why a command stops the machine with a fault. No command does: every row of the table has an effect the spec gives,
or no effect where its occasion does not hold. The type has no constructor. -/
inductive Fault
  deriving DecidableEq, Repr

/-- Why a command is refused. -/
inductive Refusal
  /-- Raised by an arm of `exec` whose command has no meaning yet; no arm raises it. Safe: the machine stops. -/
  | notModelled (mnemonic : String)
  deriving DecidableEq, Repr

/-! ### Source Timing Monitor (section 1) -/

/-- The monitor states (1.3). -/
inductive MonState
  | noSignal
  | measuring
  | candidate
  | settled
  deriving DecidableEq, Repr

/-- The timing observation (1.3), but for the state, the period list and the loss latch, which stand in `Monitor`. -/
structure Observation where
  width : Nat
  height : Nat
  format : Format
  depth : Depth
  ls : Nat
  slead : Nat
  vrr : Bool
  game : Bool
  outOfRange : Bool
  sinceSettle : Nat
  deriving DecidableEq, Repr

/-- The cleared values of the observation (R5). -/
def Observation.cleared : Observation :=
  { width := 0, height := 0, format := .full, depth := .d8, ls := 0, slead := 0, vrr := false, game := false,
    outOfRange := false, sinceSettle := 0 }

/-- The source frame being watched: its sampled flags and its measurements so far (R3). -/
structure SourceFrame where
  /-- Time of its source frame start. -/
  start : Nat
  format : Format
  depth : Depth
  vrr : Bool
  game : Bool
  /-- Active lines begun. -/
  lines : Nat
  /-- Width of active line 0, once that line is closed. -/
  width0 : Nat
  /-- Time of the active-line start of line 0. -/
  line0At : Nat
  /-- Line period, once line 16 has begun; 0 before. -/
  ls : Nat
  /-- Lead, once line 0 has begun; 0 before. -/
  slead : Nat
  /-- Every closed active line has had the width of line 0. -/
  regular : Bool
  /-- Its frame end has been taken. -/
  ended : Bool
  deriving DecidableEq, Repr

/-- The source line in progress: from its line start to the next. -/
structure SourceLine where
  /-- Its active-line start has come. -/
  active : Bool
  /-- Its line complete has come. -/
  complete : Bool
  /-- Pixels counted toward its width (R2). -/
  width : Nat
  /-- Its number among the active lines of its frame. -/
  number : Nat
  /-- Time of the source frame start of the frame it is an active line of. -/
  frameStart : Nat
  /-- That frame is still the frame being watched. -/
  inFrame : Bool
  deriving DecidableEq, Repr

/-- An active line of a source frame, by the time of the frame's source frame start and its number. -/
structure LineRef where
  frameStart : Nat
  number : Nat
  deriving DecidableEq, Repr

/-- The Source Timing Monitor. -/
structure Monitor where
  state : MonState
  obs : Observation
  /-- The period list, oldest first (R14). -/
  periods : List Nat
  lossLatch : Bool
  /-- Time of the last accepted source frame start (R13). -/
  lastStart : Option Nat
  /-- Expiry of the frame-start timer while it runs (R12). -/
  timer : Option Nat
  frame : Option SourceFrame
  line : Option SourceLine
  /-- Earlier active lines whose line complete has not come: data-enable has not fallen since their active-line start
  (R2). -/
  uncompleted : List LineRef
  deriving DecidableEq, Repr

/-! ### Mode Catalogue and Presentation Planner (sections 2 and 3) -/

inductive SlotState
  | free
  | ready
  | active
  deriving DecidableEq, Repr

/-- A record's KEY (R20); `none` is ANY. `vrr`: `some true` is ON. -/
structure Key where
  width : Option Nat
  height : Option Nat
  format : Option Format
  depth : Option Depth
  window : Option (Nat × Nat)
  vrr : Option Bool
  deriving DecidableEq, Repr

inductive SizeMode
  | explicit
  | native
  | fit
  | integer
  deriving DecidableEq, Repr

/-- A record's PRESENT section (R21). -/
structure Present where
  profile : Nat
  mode : SizeMode
  wout : Nat
  hout : Nat
  xoff : Nat
  yoff : Nat
  guard : Nat
  fill : Colour
  deriving DecidableEq, Repr

inductive RedrawMode
  | predict
  | deadline
  deriving DecidableEq, Repr

/-- A record's PACING section, or its defaults (R22). -/
structure Pacing where
  given : Bool
  redraw : RedrawMode
  ceiling : Nat
  deriving DecidableEq, Repr

/-- What the host processor writes of a record: KEY, PRESENT, PACING and LABEL (as glyph indices, R22). -/
structure Content where
  key : Key
  present : Present
  pacing : Pacing
  label : List Nat
  deriving DecidableEq, Repr

inductive UnfitReason
  | profile
  | ratio
  | placement
  | depth
  deriving DecidableEq, Repr

/-- The plan fields of 3.1. `win` and `hin` are the W_in and H_in it was computed from, which the frame entries take from
it (5.2). -/
structure Plan where
  slot : Nat
  profile : Nat
  win : Nat
  hin : Nat
  wout : Nat
  hout : Nat
  xoff : Nat
  yoff : Nat
  sh : Nat
  sv : Nat
  lp : Nat
  plead : Nat
  tscan : Nat
  tmin : Nat
  d : Int
  w : Nat
  de : Int
  q : Nat
  slack : Nat
  amax : Nat
  limit : Nat
  predict : Bool
  deriving DecidableEq, Repr

/-- The fit state with its reason or its plan figures (R28): figures are present with FIT and absent otherwise. -/
inductive Fit
  | untested
  | fit (figures : Plan)
  | unfit (reason : UnfitReason)
  deriving DecidableEq, Repr

/-- The ten statistics counters (R29). -/
structure Stats where
  activations : Nat
  presented : Nat
  skipped : Nat
  overrate : Nat
  collisions : Nat
  predicted : Nat
  forced : Nat
  worstLag : Nat
  underrun : Nat
  overflow : Nat
  deriving DecidableEq, Repr

def Stats.zero : Stats := ⟨0, 0, 0, 0, 0, 0, 0, 0, 0, 0⟩

/-- A mode record (2.1). A FREE slot holds no content. -/
structure ModeRecord where
  state : SlotState
  locked : Bool
  content : Option Content
  fit : Fit
  stats : Stats
  deriving DecidableEq, Repr

/-- A FREE, unlocked slot (R43). -/
def ModeRecord.free : ModeRecord :=
  { state := .free, locked := false, content := none, fit := .untested, stats := .zero }

/-! ### Frame Pacer (section 4) -/

inductive PacerState
  | standby
  | freeRun
  | live
  | hold
  | rest
  deriving DecidableEq, Repr

inductive LaunchKind
  | live
  | generated
  | redraw
  deriving DecidableEq, Repr

inductive LaunchReason
  | live
  | predicted
  | periodic
  | forced
  deriving DecidableEq, Repr

/-- The last launch: L_last, kind, reason and Tmin_last (4.2). -/
structure LastLaunch where
  time : Nat
  kind : LaunchKind
  reason : LaunchReason
  spacing : Nat
  deriving DecidableEq, Repr

inductive DeferClass
  | overrate
  | collision
  deriving DecidableEq, Repr

/-- The pending live launch (R69). A frame with added lag 0 is not deferred and has no class. -/
structure PendingLaunch where
  time : Nat
  plan : Plan
  lag : Nat
  cls : Option DeferClass
  deriving DecidableEq, Repr

/-- One cancellable launch of the schedule (R65). -/
structure SchedEntry where
  time : Nat
  reason : LaunchReason
  kind : LaunchKind
  deriving DecidableEq, Repr

/-- The pacer's switch tracking (R78). -/
inductive Tracking
  | noSwitch
  | waiting
  | switching (endAt : Nat)
  deriving DecidableEq, Repr

/-- A countdown timer: stopped, paused with what remains, or running to its expiry. -/
inductive Timer
  | stopped
  | paused (left : Nat)
  | running (expiry : Nat)
  deriving DecidableEq, Repr

/-- The Frame Pacer (4.2). -/
structure Pacer where
  state : PacerState
  last : Option LastLaunch
  /-- L0, the last live launch. -/
  lastLive : Option Nat
  lastInterval : Option Nat
  lastLag : Option Nat
  pending : Option PendingLaunch
  schedule : List SchedEntry
  /-- The forced deadline while it is armed (R64). -/
  deadline : Option Nat
  tracking : Tracking
  holdTimer : Timer
  restTimer : Timer
  /-- Hold time, in tenths of a second (R85). -/
  holdTime : Nat
  /-- Rest time, in tenths of a second (R85). -/
  restTime : Nat
  wakeOnSource : Bool
  deriving DecidableEq, Repr

/-! ### Line Store and Picture Scaler (section 5) -/

inductive LineState
  | free
  | filling
  | held
  deriving DecidableEq, Repr

inductive Tag
  | a
  | b
  deriving DecidableEq, Repr

/-- One line slot (R88). `pixels` are its positions from 0 up; the first `written` of them have been written by its line,
and those above it are what former lines left there: taking a slot does not clear them. -/
structure LineSlot where
  state : LineState
  tag : Tag
  line : Nat
  written : Nat
  pixels : List Colour
  deriving DecidableEq, Repr

/-- A slot after either reset (R105). The manual gives its state alone; tag A, line 0 and no pixel are the model's choice
(assumption 16). -/
def LineSlot.empty : LineSlot := ⟨.free, .a, 0, 0, []⟩

inductive EntryPhase
  | decided
  | scanning
  deriving DecidableEq, Repr

inductive PictureMode
  | live
  | fillOut
  deriving DecidableEq, Repr

/-- A frame entry (5.2). `format` and `depth` are those sampled at the frame's source frame start (R92). -/
structure FrameEntry where
  tag : Tag
  start : Nat
  plan : Plan
  fill : Colour
  format : Format
  depth : Depth
  phase : EntryPhase
  storing : Bool
  begun : Nat
  mode : PictureMode
  nextLine : Nat
  deriving DecidableEq, Repr

structure LineStore where
  slots : List LineSlot
  entries : List FrameEntry
  deriving DecidableEq, Repr

/-! ### Panel Port (section 6) -/

/-- A panel profile (R106). -/
structure Profile where
  valid : Bool
  wp : Nat
  hp : Nat
  lpMin : Nat
  lpMax : Nat
  nlead : Nat
  nfpMin : Nat
  tmax : Nat
  fr : Nat
  switchTime : Nat
  redraw : Bool
  deriving DecidableEq, Repr

/-- An INVALID profile holds every field at 0 (R106). -/
def Profile.invalid : Profile := ⟨false, 0, 0, 0, 0, 0, 0, 0, 0, 0, false⟩

inductive PortState
  | idle
  | blank
  | lead
  | scan
  | trail
  | switching
  deriving DecidableEq, Repr

/-- The port's switch phase (R110). -/
inductive SwitchPhase
  | noSwitch
  | pending (launchToCome : Bool)
  | switching (endAt : Nat)
  deriving DecidableEq, Repr

/-- The frame in progress (R110). `fill` is the record fill colour of a LIVE scan's frame. `nextLine` is the number of the
next active line to begin. -/
structure PanelFrame where
  launch : Nat
  kind : LaunchKind
  lf : Nat
  profile : Option Nat
  wp : Nat
  hp : Nat
  nlead : Nat
  nfpMin : Nat
  fill : Colour
  nextLine : Nat
  deriving DecidableEq, Repr

/-- The panel output (R182). `line` is the merged line being sent, empty while data-enable is low. The width of a frame
marker is not given, so the markers sent since the external reset are counted. -/
structure PanelOut where
  frameMarkers : Nat
  dataEnable : Bool
  redrawMarker : Bool
  line : List Colour
  deriving DecidableEq, Repr

structure PanelPort where
  profiles : List Profile
  state : PortState
  current : Option Nat
  phase : SwitchPhase
  old : Option Nat
  stopPending : Bool
  frame : Option PanelFrame
  /-- The blank line period, and the time from which blank lines are counted at it (R112, R119). -/
  blankPeriod : Nat
  blankFrom : Nat
  fill : Colour
  out : PanelOut
  deriving DecidableEq, Repr

/-! ### Overlay Merge Unit (section 7) -/

inductive Selector
  | none
  | sourceRate
  | panelRate
  | startLag
  | addedLag
  | skipped
  | redraws
  | label
  deriving DecidableEq, Repr

/-- A window's kind with the fields of that kind (R123). -/
inductive WindowKind
  | solid
  | image (startPage width height : Nat)
  | figures (glyphBase refresh : Nat) (selectors : List Selector)
  deriving DecidableEq, Repr

/-- A window's definition (R123). `binding`: a catalogue slot, or none for NONE. -/
structure WindowDef where
  kind : WindowKind
  x : Nat
  y : Nat
  w : Nat
  h : Nat
  z : Nat
  alpha : Nat
  scale : Nat
  binding : Option Nat
  palette : List Colour
  deriving DecidableEq, Repr

/-- A window record (R123): FREE, or HIDDEN or SHOWN with a definition. -/
inductive WindowState
  | free
  | hidden
  | shown
  deriving DecidableEq, Repr

/-- `text` holds one row for each selector, in order: 16 glyph indices, or an empty row for the selector NONE. -/
structure Window where
  state : WindowState
  definition : Option WindowDef
  dropped : Nat
  text : List (List Nat)
  launches : Nat
  deriving DecidableEq, Repr

def Window.free : Window := ⟨.free, none, 0, [], 0⟩

structure Overlay where
  windows : List Window
  /-- Image memory: the bytes that do not read 0, by rising address (R135). -/
  image : List Host.Cell
  writePtr : Nat
  deriving DecidableEq, Repr

/-! ### Change Stage (section 8) -/

/-- An edit (R146). -/
inductive Edit
  | catStore (slot : Nat) (content : Content)
  | catRetire (slot : Nat)
  | winDefine (win : Nat) (definition : WindowDef)
  | winPlace (win x y z alpha : Nat)
  | winShow (win : Nat) (shown : Bool)
  | winRetire (win : Nat)
  | setFill (colour : Colour)
  deriving DecidableEq, Repr

structure Stage where
  /-- The stage list in acceptance order, oldest first. -/
  edits : List Edit
  groupOpen : Bool
  deriving DecidableEq, Repr

/-! ### Control Port (section 9) -/

/-- The statuses of a reply (R165). -/
inductive Status
  | ok
  | staged
  | badCode
  | badLength
  | badIndex
  | badValue
  | locked
  | wrongState
  | empty
  | stageFull
  | noMatch
  deriving DecidableEq, Repr

structure Request where
  code : Byte
  params : List Byte
  deriving DecidableEq, Repr

structure Reply where
  code : Byte
  status : Status
  data : List Byte
  deriving DecidableEq, Repr

inductive PortPhase
  | starting
  | ready
  deriving DecidableEq, Repr

/-- The transaction kinds (R177). -/
inductive TxnKind
  | post
  | fetch
  | statusOnly
  deriving DecidableEq, Repr

/-- What the port has found of the transaction in progress: nothing yet; a complete POST of `length` parameters with its
accept byte (R160); or a malformed one, sending 03h from byte `fromByte` on (R161). -/
inductive TxnFinding
  | undecided
  | decided (length : Nat) (accept : Byte)
  | malformed (fromByte : Nat)
  deriving DecidableEq, Repr

/-- The transaction in progress (R157): its status snapshot, the reply chosen at the fall of CS_N (none: the empty reply),
whether that reply is still in the queue (R166), the bits of SDI sampled since its last complete byte, oldest first, its
complete bytes, byte 1 first, what has been found of it, and the level the port drives on SDO. A byte the port ignores is kept
with the others and read by nothing. -/
structure Txn where
  status0 : Byte
  status1 : Byte
  chosen : Option Reply
  chosenHeld : Bool
  bits : List Bool
  received : List Byte
  finding : TxnFinding
  drive : Bool
  deriving DecidableEq, Repr

structure ControlPort where
  phase : PortPhase
  /-- Transactions are held off until CS_N has been seen high (R157). -/
  heldOff : Bool
  requests : List Request
  processing : Option Request
  replies : List Reply
  txn : Option Txn
  /-- The bits sent on SDO in the transaction that ended last. -/
  sdo : List Bool
  partResets : Nat
  deriving DecidableEq, Repr

/-! ### Event Unit (section 10) -/

/-- The flags other than REPLY, and the enable mask, at the bit positions of R180. REPLY mirrors the reply queue (R172)
and is computed from it; its bit in `flags` stays 0. -/
structure EventUnit where
  flags : BitVec 16
  mask : BitVec 16
  deriving DecidableEq, Repr

/-! ### The whole -/

/-- The state of the GX28. `now` is the model's clock, in ticks of REFCLK. -/
structure State where
  now : Nat
  pending : List Instr
  mon : Monitor
  cat : List ModeRecord
  plan : Option Plan
  pacer : Pacer
  store : LineStore
  panel : PanelPort
  overlay : Overlay
  stage : Stage
  ctl : ControlPort
  ev : EventUnit
  deriving DecidableEq, Repr

/-! ### Reset -/

/-- The monitor after either reset (R18). -/
def Monitor.reset : Monitor :=
  { state := .noSignal, obs := .cleared, periods := [], lossLatch := false, lastStart := none, timer := none,
    frame := none, line := none, uncompleted := [] }

/-- The catalogue after an external reset (R43). -/
def catReset : List ModeRecord := List.replicate Config.catalogueSlots .free

/-- The pacer after an external reset (R87). -/
def Pacer.reset : Pacer :=
  { state := .standby, last := none, lastLive := none, lastInterval := none, lastLag := none, pending := none,
    schedule := [], deadline := none, tracking := .noSwitch, holdTimer := .stopped, restTimer := .paused 0,
    holdTime := 5, restTime := 0, wakeOnSource := true }

/-- The line store after either reset (R105). -/
def LineStore.reset : LineStore := { slots := List.replicate Config.lineSlots .empty, entries := [] }

/-- The panel outputs after an external reset (R122). -/
def PanelOut.reset : PanelOut := { frameMarkers := 0, dataEnable := false, redrawMarker := false, line := [] }

/-- The panel port after an external reset (R122). -/
def PanelPort.reset : PanelPort :=
  { profiles := List.replicate Config.profileCount .invalid, state := .idle, current := none, phase := .noSwitch,
    old := none, stopPending := false, frame := none, blankPeriod := 0, blankFrom := 0, fill := .black, out := .reset }

/-- The Overlay Merge Unit after an external reset (R145). -/
def Overlay.reset : Overlay :=
  { windows := List.replicate Config.windowRecords .free, image := [], writePtr := 0 }

/-- The Change Stage after either reset (R156). -/
def Stage.reset : Stage := { edits := [], groupOpen := false }

/-- The control port after an external reset (R170). -/
def ControlPort.reset : ControlPort :=
  { phase := .starting, heldOff := true, requests := [], processing := none, replies := [], txn := none, sdo := [],
    partResets := 0 }

/-- The Event Unit after an external reset (R176). -/
def EventUnit.reset : EventUnit := { flags := 0#16, mask := 0#16 }

/-- The machine right after an external reset. -/
def State.reset : State :=
  { now := 0, pending := [], mon := .reset, cat := catReset, plan := none, pacer := .reset, store := .reset,
    panel := .reset, overlay := .reset, stage := .reset, ctl := .reset, ev := .reset }

end Sys2Proof.Machine
end

