-- ==== Sys2Proof/Machine/Ops.lean ====
section
/-! DEFINITION. The named operations every block's rules are built from: one replacement per block of the state, the clock,
the tables, and image memory. -/

namespace Sys2Proof.Machine

/-- What a command answers. -/
abbrev Outcome := Host.Outcome State Fault Refusal

/-! ### Replacing one block -/

def State.setMon (s : State) (m : Monitor) : State := { s with mon := m }
def State.setCat (s : State) (c : List ModeRecord) : State := { s with cat := c }
def State.setPlan (s : State) (p : Option Plan) : State := { s with plan := p }
def State.setPacer (s : State) (p : Pacer) : State := { s with pacer := p }
def State.setStore (s : State) (l : LineStore) : State := { s with store := l }
def State.setPanel (s : State) (p : PanelPort) : State := { s with panel := p }
def State.setOverlay (s : State) (o : Overlay) : State := { s with overlay := o }
def State.setStage (s : State) (g : Stage) : State := { s with stage := g }
def State.setCtl (s : State) (c : ControlPort) : State := { s with ctl := c }
def State.setEv (s : State) (e : EventUnit) : State := { s with ev := e }

/-- The clock at the later of `t` and where it stands (assumption 1). -/
def tick (t : Nat) (s : State) : State := { s with now := max s.now t }

/-! ### Tables -/

/-- The catalogue slot with a number; a number outside 0..47 names no slot and reads as a FREE one. -/
def recordAt (s : State) (slot : Nat) : ModeRecord := s.cat.getD slot .free

/-- One catalogue slot replaced. -/
def setRecord (slot : Nat) (r : ModeRecord) (s : State) : State := s.setCat (s.cat.set slot r)

/-- The window with a number. -/
def windowAt (s : State) (win : Nat) : Window := s.overlay.windows.getD win .free

/-- One window replaced. -/
def setWindow (win : Nat) (w : Window) (s : State) : State :=
  s.setOverlay { s.overlay with windows := s.overlay.windows.set win w }

/-- The profile with an index. -/
def profileAt (s : State) (index : Nat) : Profile := s.panel.profiles.getD index .invalid

/-- The fields of the current profile; none of them hold while there is no current profile. -/
def currentProfile (s : State) : Profile :=
  match s.panel.current with
  | some i => profileAt s i
  | none => .invalid

/-- Tmin(L) = ceil((Nlead + Hp + Nfp_min)·L/16) of a profile (R54). -/
def tminAt (p : Profile) (lp : Nat) : Nat := ceilDiv ((p.nlead + p.hp + p.nfpMin) * lp) 16

/-! ### The ACTIVE record -/

/-- The number of the ACTIVE record, if there is one (R35). -/
def activeSlot (s : State) : Option Nat := s.cat.findIdx? (·.state == .active)

/-- The ACTIVE record, if there is one. -/
def activeRecord (s : State) : Option ModeRecord := s.cat.find? (·.state == .active)

/-- A report to the Mode Catalogue: the ACTIVE record's statistics are updated; with no ACTIVE record the report is
discarded (R29). -/
def report (f : Stats → Stats) (s : State) : State :=
  s.setCat (s.cat.map fun r => if r.state = .active then { r with stats := f r.stats } else r)

/-- A 32-bit counter raised by 1, saturating (R29). -/
def bump (n : Nat) : Nat := satAdd Config.max32 n 1

def Stats.addSkipped (x : Stats) : Stats := { x with skipped := bump x.skipped }
def Stats.addPredicted (x : Stats) : Stats := { x with predicted := bump x.predicted }
def Stats.addForced (x : Stats) : Stats := { x with forced := bump x.forced }
def Stats.addUnderrun (x : Stats) : Stats := { x with underrun := bump x.underrun }
def Stats.addOverflow (x : Stats) : Stats := { x with overflow := bump x.overflow }
def Stats.addActivation (x : Stats) : Stats := { x with activations := bump x.activations }

/-- The updates of a live launch with added lag `lag` and deferral class `cls` (R29, R71). -/
def Stats.addLive (lag : Nat) (cls : Option DeferClass) (x : Stats) : Stats :=
  { x with
    presented := bump x.presented
    overrate := if 0 < lag ∧ cls = some .overrate then bump x.overrate else x.overrate
    collisions := if 0 < lag ∧ cls = some .collision then bump x.collisions else x.collisions
    worstLag := max x.worstLag lag }

/-! ### The period estimate -/

/-- P̂: the sum of the listed periods div their number; no estimate while the list is empty (R15). -/
def estimate (periods : List Nat) : Option Nat :=
  if periods.isEmpty then none else some (periods.sum / periods.length)

/-! ### Image memory (R135) -/

/-- Image memory in its one form: addresses strictly rising and below the end of memory, and no listed byte that reads 0,
which is what an unlisted address reads as. -/
def imageWf : List Host.Cell → Bool
  | [] => true
  | [(a, b)] => decide (a < Config.imageBytes) && b != 0#8
  | (a, b) :: (a', b') :: rest => decide (a < a') && b != 0#8 && imageWf ((a', b') :: rest)

/-- The byte at an address. -/
def imageRead (addr : Nat) : List Host.Cell → Byte
  | [] => 0#8
  | (a, b) :: rest => if a = addr then b else imageRead addr rest

/-- One byte written; a byte 0 is held by being unlisted. -/
def imageWrite (addr : Nat) (v : Byte) : List Host.Cell → List Host.Cell
  | [] => if v = 0#8 then [] else [(addr, v)]
  | (a, b) :: rest =>
    if a < addr then (a, b) :: imageWrite addr v rest
    else if a = addr then (if v = 0#8 then rest else (addr, v) :: rest)
    else if v = 0#8 then (a, b) :: rest
    else (addr, v) :: (a, b) :: rest

/-- Bytes written in order at consecutive addresses; a byte at 262,144 or beyond is discarded (R136). -/
def imageWriteAll (addr : Nat) : List Byte → List Host.Cell → List Host.Cell
  | [], mem => mem
  | v :: vs, mem => imageWriteAll (addr + 1) vs (if addr < Config.imageBytes then imageWrite addr v mem else mem)

end Sys2Proof.Machine
end

