-- ==== Sys2Proof/Machine/Operands.lean ====
section
/-! DEFINITION. Reading the fields of a request and writing those of a reply: widths, byte order and codes (R1, R178 to
R181), and the glyph set's characters. -/

namespace Sys2Proof.Machine

/-! ### Fields -/

/-- The value of bytes sent most significant first (R1). -/
def beValue (bs : List Byte) : Nat := bs.foldl (fun acc b => acc * 256 + b.toNat) 0

/-- The field of `size` bytes at `offset` of a request's parameters. -/
def field (ps : List Byte) (offset size : Nat) : Nat := beValue ((ps.drop offset).take size)

/-- The low `size` bytes of a value, most significant first. -/
def beBytes : Nat → Nat → List Byte
  | 0, _ => []
  | size + 1, v => BitVec.ofNat 8 (v / 256 ^ size) :: beBytes size v

/-- A reply field of `size` bytes. A value wider than its field is written as the field's largest value (R181). -/
def be (size v : Nat) : List Byte := beBytes size (min v (256 ^ size - 1))

/-- A signed reply field of four bytes, two's complement (R1), held to the field's range (R181). -/
def beSigned (v : Int) : List Byte :=
  beBytes 4 ((clampInt v (-2147483648) 2147483647) % 4294967296).toNat

/-- A byte from packed fields. -/
def byte (n : Nat) : Byte := BitVec.ofNat 8 n

/-- yes/no, off/on, clear/set: 0 and 1 (R178). -/
def boolCode (b : Bool) : Nat := if b then 1 else 0

/-! ### Codes (R178) -/

def formatCode : Format → Nat
  | .full => 1
  | .half => 2

def depthCode : Depth → Nat
  | .d8 => 1
  | .d10 => 2

/-- vrr: 1 OFF, 2 ON. -/
def vrrCode (on : Bool) : Nat := if on then 2 else 1

def SizeMode.code : SizeMode → Nat
  | .explicit => 0
  | .native => 1
  | .fit => 2
  | .integer => 3

def RedrawMode.code : RedrawMode → Nat
  | .predict => 0
  | .deadline => 1

def SlotState.code : SlotState → Nat
  | .free => 0
  | .ready => 1
  | .active => 2

def UnfitReason.code : UnfitReason → Nat
  | .profile => 1
  | .ratio => 2
  | .placement => 3
  | .depth => 4

/-- The fit state's code. -/
def Fit.code : Fit → Nat
  | .untested => 0
  | .fit _ => 1
  | .unfit _ => 2

/-- The reason's code, 0 for none. -/
def Fit.reasonCode : Fit → Nat
  | .unfit r => r.code
  | _ => 0

def MonState.code : MonState → Nat
  | .noSignal => 0
  | .measuring => 1
  | .candidate => 2
  | .settled => 3

def PacerState.code : PacerState → Nat
  | .standby => 0
  | .freeRun => 1
  | .live => 2
  | .hold => 3
  | .rest => 4

def Tracking.code : Tracking → Nat
  | .noSwitch => 0
  | .waiting => 1
  | .switching _ => 2

def PortState.code : PortState → Nat
  | .idle => 0
  | .blank => 1
  | .lead => 2
  | .scan => 3
  | .trail => 4
  | .switching => 5

def SwitchPhase.code : SwitchPhase → Nat
  | .noSwitch => 0
  | .pending false => 1
  | .pending true => 2
  | .switching _ => 3

def WindowState.code : WindowState → Nat
  | .free => 0
  | .hidden => 1
  | .shown => 2

def WindowKind.code : WindowKind → Nat
  | .solid => 0
  | .image _ _ _ => 1
  | .figures _ _ _ => 2

def Selector.code : Selector → Nat
  | .none => 0
  | .sourceRate => 1
  | .panelRate => 2
  | .startLag => 3
  | .addedLag => 4
  | .skipped => 5
  | .redraws => 6
  | .label => 7

/-- The selector a code names; a code outside 0..7 names none. -/
def selectorOf : Nat → Option Selector
  | 0 => some .none
  | 1 => some .sourceRate
  | 2 => some .panelRate
  | 3 => some .startLag
  | 4 => some .addedLag
  | 5 => some .skipped
  | 6 => some .redraws
  | 7 => some .label
  | _ => none

def LaunchKind.code : LaunchKind → Nat
  | .live => 1
  | .generated => 2
  | .redraw => 3

def LaunchReason.code : LaunchReason → Nat
  | .live => 1
  | .predicted => 2
  | .periodic => 3
  | .forced => 4

def DeferClass.code : DeferClass → Nat
  | .overrate => 0
  | .collision => 1

/-- A number, or FFh for NONE. -/
def orNone : Option Nat → Nat
  | some n => n
  | none => 255

/-- The status codes (R165). -/
def Status.code : Status → Byte
  | .ok => 0x00#8
  | .staged => 0x01#8
  | .badCode => 0x10#8
  | .badLength => 0x11#8
  | .badIndex => 0x12#8
  | .badValue => 0x13#8
  | .locked => 0x14#8
  | .wrongState => 0x15#8
  | .empty => 0x16#8
  | .stageFull => 0x17#8
  | .noMatch => 0x18#8

/-! ### Colours -/

/-- A component clamped to 1023. -/
def clampComponent (v : Nat) : Nat := min v 1023

/-- Three components of two bytes each, at an offset, clamped (R21, R121). -/
def colourField (ps : List Byte) (offset : Nat) : Colour :=
  ⟨clampComponent (field ps offset 2), clampComponent (field ps (offset + 2) 2), clampComponent (field ps (offset + 4) 2)⟩

/-- Three components of two bytes each. -/
def colourBytes (c : Colour) : List Byte := be 2 c.c0 ++ be 2 c.c1 ++ be 2 c.c2

/-- A palette entry: one 32-bit field with the components in bits 31..21, 20..10 and 9..0, clamped (R180, R125). -/
def paletteField (ps : List Byte) (offset : Nat) : Colour :=
  let v := field ps offset 4
  ⟨clampComponent (v / 2097152), clampComponent (v / 1024 % 2048), clampComponent (v % 1024)⟩

/-- A palette entry in the WIN_DEFINE layout (R181). -/
def paletteBytes (c : Colour) : List Byte := be 4 (c.c0 * 2097152 + c.c1 * 1024 + c.c2)

/-! ### Characters (R178, R140) -/

/-- The space glyph's index. -/
def spaceGlyph : Nat := 36

/-- The glyph index of a character code; every other byte is stored as a space (R22). -/
def glyphOf (c : Byte) : Nat :=
  let n := c.toNat
  if 0x30 ≤ n ∧ n ≤ 0x39 then n - 0x30
  else if 0x41 ≤ n ∧ n ≤ 0x5A then n - 0x41 + 10
  else if n = 0x2E then 37
  else if n = 0x2D then 38
  else if n = 0x3A then 39
  else spaceGlyph

/-- The character code of a glyph index. -/
def charOf (g : Nat) : Byte :=
  if g ≤ 9 then byte (0x30 + g)
  else if g ≤ 35 then byte (0x41 + (g - 10))
  else if g = 37 then 0x2E#8
  else if g = 38 then 0x2D#8
  else if g = 39 then 0x3A#8
  else 0x20#8

/-! ### The plan block (R181) -/

/-- Two 12-bit fields sharing three bytes, the first in the upper bits. -/
def pair12 (a b : Nat) : List Byte := be 3 (a * 4096 + b)

/-- The plan block of 47 bytes. -/
def planBlock (p : Plan) : List Byte :=
  pair12 p.wout p.hout ++ pair12 p.xoff p.yoff ++ be 3 p.sh ++ be 3 p.sv ++ be 3 p.lp ++ be 3 p.plead ++ be 4 p.tscan
    ++ be 4 p.tmin ++ beSigned p.d ++ be 4 p.w ++ beSigned p.de ++ be 1 p.q ++ be 1 p.slack ++ be 3 p.amax
    ++ be 3 p.limit ++ be 1 (boolCode p.predict)

end Sys2Proof.Machine
end

