-- ==== Sys2Proof/Machine/Chain.lean ====
section
/-! DEFINITION. The section chain of a CAT_STORE: its structure, its fields and its layouts (R19 to R22, R179), and the
sections as CAT_READ writes them back (R181). -/

namespace Sys2Proof.Machine

/-! ### Fields of the sections -/

/-- A size that is 0 for ANY, or lies in its range (R20). -/
def anySize (lo hi v : Nat) : Option (Option Nat) :=
  if v = 0 then some none else if lo ≤ v ∧ v ≤ hi then some (some v) else none

def formatOf : Nat → Option (Option Format)
  | 0 => some none
  | 1 => some (some .full)
  | 2 => some (some .half)
  | _ => none

def depthOf : Nat → Option (Option Depth)
  | 0 => some none
  | 1 => some (some .d8)
  | 2 => some (some .d10)
  | _ => none

def vrrOf : Nat → Option (Option Bool)
  | 0 => some none
  | 1 => some (some false)
  | 2 => some (some true)
  | _ => none

/-- A line window: both bounds 0, or 1,600 ≤ lo ≤ hi ≤ 320,000 (R20). -/
def windowOf (lo hi : Nat) : Option (Option (Nat × Nat)) :=
  if lo = 0 ∧ hi = 0 then some none
  else if 1600 ≤ lo ∧ lo ≤ hi ∧ hi ≤ 320000 then some (some (lo, hi))
  else none

/-- A KEY body of 11 bytes; `none` is a field outside its allowed values (R20, R179). -/
def keyOf (b : List Byte) : Option Key :=
  let packed := field b 10 1
  match anySize 64 3840 (field b 0 2), anySize 64 2160 (field b 2 2), windowOf (field b 4 3) (field b 7 3),
    formatOf (packed % 4), depthOf (packed / 4 % 4), vrrOf (packed / 16 % 4) with
  | some width, some height, some window, some format, some depth, some vrr =>
    if packed / 64 = 0 then some { width, height, format, depth, window, vrr } else none
  | _, _, _, _, _, _ => none

def sizeModeOf : Nat → Option SizeMode
  | 0 => some .explicit
  | 1 => some .native
  | 2 => some .fit
  | 3 => some .integer
  | _ => none

/-- A PRESENT body of 16 bytes (R21, R179). -/
def presentOf (b : List Byte) : Option Present :=
  let packed := field b 0 1
  let wout := field b 1 2
  let hout := field b 3 2
  let xoff := field b 5 2
  let yoff := field b 7 2
  let guard := min 15 (field b 9 1)
  let fill := colourField b 10
  if Config.profileCount ≤ packed % 16 then none
  else
    match sizeModeOf (packed / 16) with
    | none => none
    | some .explicit =>
      if 1 ≤ wout ∧ wout ≤ 3840 ∧ 1 ≤ hout ∧ hout ≤ 2160 ∧ xoff ≤ 3839 ∧ yoff ≤ 2159 then
        some { profile := packed % 16, mode := .explicit, wout, hout, xoff, yoff, guard, fill }
      else none
    | some mode => some { profile := packed % 16, mode, wout := 0, hout := 0, xoff := 0, yoff := 0, guard, fill }

/-- A PACING body of 4 bytes (R22, R179). -/
def pacingOf (b : List Byte) : Option Pacing :=
  match field b 0 1 with
  | 0 => some { given := true, redraw := .predict, ceiling := field b 1 3 }
  | 1 => some { given := true, redraw := .deadline, ceiling := field b 1 3 }
  | _ => none

/-- The pacing of a record stored without a PACING section (R22). -/
def Pacing.default : Pacing := { given := false, redraw := .predict, ceiling := 16777215 }

/-- A label of a LABEL body: glyph indices, the first sixteen (R22). -/
def labelOf (b : List Byte) : List Nat := (b.map glyphOf).take 16

/-! ### The chain (R19) -/

/-- What has been read of a chain: the tags met, the sections read, and the unknown sections counted. -/
structure Chain where
  tags : List Byte
  key : Option Key
  present : Option Present
  pacing : Option Pacing
  label : List Nat
  skipped : Nat
  deriving DecidableEq, Repr

def Chain.start : Chain := { tags := [], key := none, present := none, pacing := none, label := [], skipped := 0 }

/-- The body length of a known section is wrong (R19, R179). -/
def badBodyLength (tag : Byte) (length : Nat) : Bool :=
  match tag.toNat with
  | 1 => length != 11
  | 2 => length != 16
  | 3 => length != 4
  | 4 => length == 0
  | _ => false

/-- A section's body read into the chain; an unknown section is counted (R19). `none`: a field check failed. -/
def Chain.read (tag : Byte) (body : List Byte) (c : Chain) : Option Chain :=
  match tag.toNat with
  | 1 => (keyOf body).map fun k => { c with key := some k }
  | 2 => (presentOf body).map fun p => { c with present := some p }
  | 3 => (pacingOf body).map fun p => { c with pacing := some p }
  | 4 => some { c with label := labelOf body }
  | _ => some { c with skipped := c.skipped + 1 }

/-- One section: its length, a repeated tag, its fields, in this order (R19). -/
def Chain.section_ (tag : Byte) (body : List Byte) (c : Chain) : Except Status Chain :=
  if badBodyLength tag body.length then .error .badLength
  else if c.tags.contains tag then .error .badValue
  else
    match c.read tag body with
    | some c' => .ok { c' with tags := tag :: c.tags }
    | none => .error .badValue

/-- What a chain holds once END is reached: KEY and PRESENT must have appeared (R19, R22). -/
def Chain.close (c : Chain) : Except Status (Content × Nat) :=
  match c.key, c.present with
  | some key, some present =>
    .ok ({ key, present, pacing := c.pacing.getD .default, label := c.label }, c.skipped)
  | _, _ => .error .badValue

/-- A chain read from the start to its END (R19): every header and body lies within the parameters, and no byte follows
END. `fuel` bounds the sections; a chain of n bytes holds fewer than n + 1. -/
def readChain : Nat → List Byte → Chain → Except Status (Content × Nat)
  | 0, _, _ => .error .badLength
  | _ + 1, [], _ => .error .badLength
  | fuel + 1, tag :: rest, c =>
    if tag = 0x00#8 then (if rest = [] then c.close else .error .badLength)
    else
      match rest with
      | [] => .error .badLength
      | length :: tail =>
        if tail.length < length.toNat then .error .badLength
        else
          match c.section_ tag (tail.take length.toNat) with
          | .error e => .error e
          | .ok c' => readChain fuel (tail.drop length.toNat) c'

/-- A CAT_STORE's chain. -/
def chainOf (bytes : List Byte) : Except Status (Content × Nat) := readChain (bytes.length + 1) bytes .start

/-! ### Sections written back (R181) -/

/-- A code that is 0 for ANY. -/
def anyCode {α : Type} (code : α → Nat) : Option α → Nat
  | some v => code v
  | none => 0

/-- The KEY body of CAT_READ. -/
def keyBytes (k : Key) : List Byte :=
  be 2 (anyCode id k.width) ++ be 2 (anyCode id k.height) ++ be 3 (anyCode Prod.fst k.window)
    ++ be 3 (anyCode Prod.snd k.window)
    ++ [byte (anyCode formatCode k.format + 4 * anyCode depthCode k.depth + 16 * anyCode vrrCode k.vrr)]

/-- The PRESENT body of CAT_READ. -/
def presentBytes (p : Present) : List Byte :=
  [byte (p.profile + 16 * p.mode.code)] ++ be 2 p.wout ++ be 2 p.hout ++ be 2 p.xoff ++ be 2 p.yoff ++ be 1 p.guard
    ++ colourBytes p.fill

end Sys2Proof.Machine
end

