-- ==== Sys2Proof/Machine/Flags.lean ====
section
/-! DEFINITION. The Event Unit's flags, the enable mask and the attention line (section 10, R180). -/

namespace Sys2Proof.Machine

/-- The fourteen flags (10.1). -/
inductive Flag
  | reply
  | settled
  | lost
  | activated
  | unmatched
  | unfit
  | applied
  | skipped
  | underrun
  | overflow
  | clipped
  | hint
  | rest
  | portError
  deriving DecidableEq, Repr

/-- A flag's position in the flag fields (R180). -/
def Flag.bit : Flag → Nat
  | .reply => 0
  | .settled => 1
  | .lost => 2
  | .activated => 3
  | .unmatched => 4
  | .unfit => 5
  | .applied => 6
  | .skipped => 7
  | .underrun => 8
  | .overflow => 9
  | .clipped => 10
  | .hint => 11
  | .rest => 12
  | .portError => 13

/-- A flag field with one flag marked. -/
def Flag.word (f : Flag) : BitVec 16 := 1#16 <<< f.bit

/-- A flag field with REPLY alone marked. -/
def replyBit : BitVec 16 := Flag.reply.word

/-- The two unused positions of a flag field (R180). -/
def unusedBits : BitVec 16 := 0xC000#16

/-- A block delivers an occurrence: its flag is set, whatever its enable (R171). -/
def deliver (f : Flag) (s : State) : State := s.setEv { s.ev with flags := s.ev.flags ||| f.word }

/-- All fourteen flags. REPLY is set while the reply queue holds a reply (R172). -/
def flagWord (s : State) : BitVec 16 :=
  (s.ev.flags &&& ~~~replyBit) ||| (if s.ctl.replies.isEmpty then 0#16 else replyBit)

/-- Whether one flag is set. -/
def flagSet (f : Flag) (s : State) : Bool := (flagWord s).getLsbD f.bit

/-- ATTN_N is driven low: at least one flag is both set and enabled (R173). -/
def attention (s : State) : Bool := (flagWord s &&& s.ev.mask) != 0#16

/-- Every flag cleared except REPLY, which follows its queue (R174, R176). -/
def clearFlags (s : State) : State := s.setEv { s.ev with flags := 0#16 }

end Sys2Proof.Machine
end

