-- ==== Sys2Proof/Machine/Planner.lean ====
section
/-! DEFINITION. The Presentation Planner (section 3): the plan of one record against one source timing and one profile. -/

namespace Sys2Proof.Machine

/-- The outcome of one planning (R47). -/
inductive PlanResult
  | fit (plan : Plan)
  | unfit (reason : UnfitReason)
  deriving DecidableEq, Repr

/-- A picture's size and position before the placement check; a centred position may be negative (R48). -/
structure Picture where
  wout : Nat
  hout : Nat
  xoff : Int
  yoff : Int
  deriving DecidableEq, Repr

/-- The picture placed in the middle of the panel (R48). -/
def centred (p : Profile) (wout hout : Nat) : Picture :=
  { wout, hout, xoff := ((p.wp : Int) - wout) / 2, yoff := ((p.hp : Int) - hout) / 2 }

/-- The size of FIT: the source's proportions, filling the panel in one dimension (R48). -/
def fitSize (p : Profile) (win hin : Nat) : Nat × Nat :=
  if p.wp * hin ≤ win * p.hp then (p.wp, p.wp * hin / win) else (p.hp * win / hin, p.hp)

/-- The largest of 1, 2, 3 and 4 that keeps the multiplied source on the panel, if any does (R49). -/
def integerScale (p : Profile) (win hin : Nat) : Option Nat :=
  [4, 3, 2, 1].find? fun n => decide (n * win ≤ p.wp ∧ n * hin ≤ p.hp)

/-- Picture size and placement by size mode (R48, R49). -/
def pictureOf (c : Present) (p : Profile) (win hin : Nat) : Picture :=
  match c.mode with
  | .explicit => { wout := c.wout, hout := c.hout, xoff := c.xoff, yoff := c.yoff }
  | .native => centred p win hin
  | .fit => centred p (fitSize p win hin).1 (fitSize p win hin).2
  | .integer =>
    match integerScale p win hin with
    | some n => centred p (n * win) (n * hin)
    | none => centred p (fitSize p win hin).1 (fitSize p win hin).2

/-- The ratio check (R50). -/
def ratioOk (g : Picture) (win hin : Nat) : Bool :=
  decide (win ≤ 2 * g.wout ∧ g.wout ≤ 4 * win ∧ hin ≤ 2 * g.hout ∧ g.hout ≤ 4 * hin)

/-- The placement check (R51). -/
def placementOk (g : Picture) (p : Profile) : Bool :=
  decide (0 ≤ g.xoff ∧ 0 ≤ g.yoff ∧ g.xoff + g.wout ≤ p.wp ∧ g.yoff + g.hout ≤ p.hp)

/-- f(j), the lowest source line picture line j needs (R52). -/
def lowestLine (sv j : Nat) : Nat := j * sv / 65536 - 1

/-- k(j), the highest source line picture line j needs (R52). -/
def highestLine (hin sv j : Nat) : Nat := min (hin - 1) (j * sv / 65536 + 2)

/-- The panel line period (R53). -/
def linePeriod (p : Profile) (hin ls hout : Nat) : Nat := min (max (ceilDiv (hin * ls) hout) p.lpMin) p.lpMax

/-- E(j), the lead picture line j needs on its own, in sixteenth-ticks (R55). -/
def leadNeeded (hin ls sv lp yoff j : Nat) : Int := ((highestLine hin sv j + 1) * ls : Nat) - ((yoff + j) * lp : Nat)

/-- The start offset D (R55). -/
def startOffset (hin ls sv lp yoff hout guard : Nat) : Int :=
  ceilDivInt (max (leadNeeded hin ls sv lp yoff 0) (leadNeeded hin ls sv lp yoff (hout - 1)) + ((1 + guard) * ls : Nat)) 16

/-- arrived(t): source lines begun by t (R57). -/
def arrived (hin ls t : Nat) : Nat := min hin (t / ls + 1)

/-- done(t): picture lines begun before the one in progress at t (R57). -/
def linesDone (de : Int) (yoff lp hout : Nat) (t : Nat) : Nat :=
  (clampInt (((t : Int) - 16 * de - (yoff * lp : Nat)) / lp) 0 hout).toNat

/-- released(t): source lines below the lowest the next picture line needs (R57). -/
def linesReleased (hin sv : Nat) (de : Int) (yoff lp hout t : Nat) : Nat :=
  if linesDone de yoff lp hout t = hout then hin else lowestLine sv (linesDone de yoff lp hout t)

/-- occ(t): source lines held at t (R57). -/
def occupancy (hin ls sv : Nat) (de : Int) (yoff lp hout t : Nat) : Int :=
  (arrived hin ls t : Int) - linesReleased hin sv de yoff lp hout t

/-- The store depth Q (R57). -/
def storeDepth (hin ls sv : Nat) (de : Int) (yoff lp hout : Nat) : Nat :=
  (max (occupancy hin ls sv de yoff lp hout (max 0 (16 * de + (yoff * lp : Nat))).toNat)
       (occupancy hin ls sv de yoff lp hout ((hin - 1) * ls)) + 2).toNat

/-- Steps 5 to 7 of R47 for a picture that passed its checks: every figure of the plan (R52 to R59). -/
def figuresOf (slot win hin ls slead : Nat) (c : Content) (p : Profile) (wout hout xoff yoff : Nat) : Plan :=
  let sv := hin * 65536 / hout
  let lp := linePeriod p hin ls hout
  let plead := ceilDiv (p.nlead * lp) 16
  let d := startOffset hin ls sv lp yoff hout c.present.guard
  let w := (max 0 ((slead : Int) + d - plead)).toNat
  let de := (w : Int) + plead - slead
  let q := storeDepth hin ls sv de yoff lp hout
  let slack := Config.lineSlots - q
  let amax := slack * ls / 16
  { slot, profile := c.present.profile, win, hin, wout, hout, xoff, yoff,
    sh := win * 65536 / wout, sv, lp, plead,
    tscan := ceilDiv ((p.nlead + p.hp) * lp) 16, tmin := tminAt p lp,
    d, w, de, q, slack, amax, limit := min c.pacing.ceiling amax,
    predict := c.pacing.redraw = .predict ∧ p.redraw = true ∧ 2 * tminAt p lp ≤ p.tmax }

/-- One planning, in the order of R47: the first check that fails gives the reason. -/
def planFor (slot win hin ls slead : Nat) (c : Content) (p : Profile) : PlanResult :=
  if p.valid = false then .unfit .profile
  else
    let g := pictureOf c.present p win hin
    if ratioOk g win hin = false then .unfit .ratio
    else if placementOk g p = false then .unfit .placement
    else
      let plan := figuresOf slot win hin ls slead c p g.wout g.hout g.xoff.toNat g.yoff.toNat
      if Config.lineSlots < plan.q then .unfit .depth else .fit plan

end Sys2Proof.Machine
end

