-- ==== Sys2Proof/Machine/LineStore.lean ====
section
/-! DEFINITION. The Line Store and Picture Scaler (section 5): the slot table, the frame entries, storing, release, and the
picture filter. -/

namespace Sys2Proof.Machine

/-! ### Slots and entries -/

/-- A slot is occupied when it is FILLING or HELD (R88). -/
def LineSlot.occupied (x : LineSlot) : Bool := x.state != .free

/-- The slots, with those a test picks released: a released slot becomes FREE (R96). -/
def releaseSlots (pick : LineSlot → Bool) (l : LineStore) : LineStore :=
  { l with slots := l.slots.map fun x => if x.occupied && pick x then { x with state := .free } else x }

/-- Every slot of a tag released, whatever its state (R103, R104). -/
def releaseTag (tag : Tag) (l : LineStore) : LineStore := releaseSlots (fun x => x.tag == tag) l

/-- The tag of a new entry: A when no occupied slot and no other entry carries A, B otherwise (R90). -/
def newTag (l : LineStore) : Tag :=
  if l.slots.any (fun x => x.occupied && x.tag == .a) || l.entries.any (fun e => e.tag == .a) then .b else .a

/-- A new frame entry: DECIDED, storing open, LIVE, no lines begun, picture line 0 next (R90). -/
def createEntry (start : Nat) (plan : Plan) (fill : Colour) (format : Format) (depth : Depth) (l : LineStore) :
    LineStore :=
  { l with entries := l.entries ++
      [{ tag := newTag l, start, plan, fill, format, depth, phase := .decided, storing := true, begun := 0,
         mode := .live, nextLine := 0 }] }

/-- The entry of the frame whose source frame start came at a time (R90, R91). -/
def entryOf (start : Nat) (l : LineStore) : Option FrameEntry := l.entries.find? (·.start == start)

/-- The DECIDED entry and the SCANNING entry; there is at most one of each (5.2). -/
def decidedEntry (l : LineStore) : Option FrameEntry := l.entries.find? (·.phase == .decided)
def scanningEntry (l : LineStore) : Option FrameEntry := l.entries.find? (·.phase == .scanning)

/-- The entries a test picks, changed. -/
def mapEntries (pick : FrameEntry → Bool) (f : FrameEntry → FrameEntry) (l : LineStore) : LineStore :=
  { l with entries := l.entries.map fun e => if pick e then f e else e }

/-- A LIVE launch binds the DECIDED entry, which becomes SCANNING (R95). -/
def bindEntry (l : LineStore) : LineStore :=
  mapEntries (fun e => e.phase == .decided) (fun e => { e with phase := .scanning }) l

/-- Storing closes for the entry of a frame at its frame end (R94). -/
def closeStoring (start : Nat) (l : LineStore) : LineStore :=
  mapEntries (fun e => e.start == start) (fun e => { e with storing := false }) l

/-- The frame of the DECIDED entry is withdrawn: its slots are released and the entry removed (R103). -/
def withdrawEntry (l : LineStore) : LineStore :=
  match decidedEntry l with
  | some e =>
    let r := releaseTag e.tag l
    { r with entries := r.entries.filter fun x => x.phase != .decided }
  | none => l

/-- A deactivation puts the SCANNING entry into FILL_OUT and closes its storing (R102). -/
def fillOut (l : LineStore) : LineStore :=
  mapEntries (fun e => e.phase == .scanning) (fun e => { e with mode := .fillOut, storing := false }) l

/-- The scan end of a LIVE scan: every slot of the scan's entry is released and the entry removed (R104). -/
def endScan (l : LineStore) : LineStore :=
  match scanningEntry l with
  | some e =>
    let r := releaseTag e.tag l
    { r with entries := r.entries.filter fun x => x.phase != .scanning }
  | none => l

/-! ### Writing source lines -/

/-- The pixels a slot's own line has written (R88, R92). -/
def LineSlot.own (x : LineSlot) : List Colour := x.pixels.take x.written

/-- One free slot taken for a line and set FILLING, its former pixels not cleared (R88); which one does not matter (R91),
and the lowest is taken. `none` when all 128 are occupied. -/
def takeSlot (tag : Tag) (line : Nat) : List LineSlot → Option (List LineSlot)
  | [] => none
  | x :: xs =>
    if x.occupied then (takeSlot tag line xs).map (x :: ·)
    else some ({ x with state := .filling, tag := tag, line := line, written := 0 } :: xs)

/-- What an active-line start does in the line store (R91). -/
inductive Arrival
  | notWritten
  | stored
  | overflow
  deriving DecidableEq, Repr

/-- The line store's part of an active-line start: line `i` of the frame that started at `start` (R91). -/
def arriveLine (start i : Nat) (l : LineStore) : LineStore × Arrival :=
  match entryOf start l with
  | none => (l, .notWritten)
  | some e =>
    let l' := mapEntries (fun x => x.start == start) (fun x => { x with begun := min (x.begun + 1) x.plan.hin }) l
    if e.storing = false ∨ e.plan.hin ≤ i then (l', .notWritten)
    else
      match takeSlot e.tag i l'.slots with
      | some slots => ({ l' with slots := slots }, .stored)
      | none => (l', .overflow)

/-- An arriving line, with the report and the flag of an overflow line (R91). -/
def storeLineStart (start i : Nat) (s : State) : State :=
  match arriveLine start i s.store with
  | (l, .overflow) => deliver .overflow (report Stats.addOverflow (s.setStore l))
  | (l, _) => s.setStore l

/-- One component at depth 8, from the upper eight wires of its lane (R182), widened to 10 bits (R92); at depth 10 as it
arrives. -/
def widen (depth : Depth) (wires : BitVec 10) : Nat :=
  match depth with
  | .d8 => (wires.toNat / 4) * 4 + (wires.toNat / 4) / 64
  | .d10 => wires.toNat

/-- One pixel appended to the pixels of a line, in the store's form (R92): in HALF an odd-numbered pixel takes its second
and third components from the pixel before it. -/
def appendPixel (format : Format) (depth : Depth) (px : List Colour) (p : RawPixel) : List Colour :=
  let c : Colour := ⟨widen depth p.c0, widen depth p.c1, widen depth p.c2⟩
  match format with
  | .full => px ++ [c]
  | .half =>
    if px.length % 2 = 0 then px ++ [c]
    else
      let before := px.getLast?.getD c
      px ++ [⟨c.c0, before.c1, before.c2⟩]

/-- The pixels of a transfer written in arrival order, at most `win` of them in the line (R92). -/
def appendPixels (format : Format) (depth : Depth) (win : Nat) : List Colour → List RawPixel → List Colour
  | px, [] => px
  | px, p :: ps =>
    appendPixels format depth win (if px.length < win then appendPixel format depth px p else px) ps

/-- The pixels of a transfer written into a slot: they follow those its line has written, and replace what former lines left
at their positions (R88, R92). -/
def LineSlot.write (format : Format) (depth : Depth) (win : Nat) (ps : List RawPixel) (x : LineSlot) : LineSlot :=
  let own := appendPixels format depth win x.own ps
  { x with pixels := own ++ x.pixels.drop own.length, written := own.length }

/-- The line store's part of a transfer, for line `i` of the frame that started at `start`: the pixels go into the line's
FILLING slot while the frame's entry is in picture mode LIVE (R92, R94). -/
def storePixels (start i : Nat) (ps : List RawPixel) (l : LineStore) : LineStore :=
  match entryOf start l with
  | none => l
  | some e =>
    if e.mode = .fillOut then l
    else
      { l with slots := l.slots.map fun x =>
          if x.state = .filling ∧ x.tag = e.tag ∧ x.line = i then
            x.write e.format e.depth e.plan.win ps
          else x }

/-- A line complete sets the slot FILLING for that line to HELD (R93). -/
def completeLine (start i : Nat) (l : LineStore) : LineStore :=
  match entryOf start l with
  | none => l
  | some e =>
    { l with slots := l.slots.map fun x =>
        if x.state = .filling ∧ x.tag = e.tag ∧ x.line = i then { x with state := .held } else x }

/-- The line completes of lines, one after another. -/
def completeLines (rs : List LineRef) (l : LineStore) : LineStore :=
  rs.foldl (fun l r => completeLine r.frameStart r.number l) l

/-! ### The picture filter -/

/-- The weights of a phase (R100). -/
def weights : Nat → Int × Int × Int × Int
  | 0 => (0, 64, 0, 0)
  | 1 => (-2, 63, 3, 0)
  | 2 => (-3, 61, 6, 0)
  | 3 => (-4, 59, 10, -1)
  | 4 => (-4, 55, 15, -2)
  | 5 => (-5, 51, 20, -2)
  | 6 => (-5, 47, 25, -3)
  | 7 => (-4, 41, 30, -3)
  | 8 => (-4, 36, 36, -4)
  | 9 => (-3, 30, 41, -4)
  | 10 => (-3, 25, 47, -5)
  | 11 => (-2, 20, 51, -5)
  | 12 => (-2, 15, 55, -4)
  | 13 => (-1, 10, 59, -4)
  | 14 => (0, 6, 61, -3)
  | _ => (0, 3, 63, -2)

/-- One pass of the filter on four taps (R99). -/
def filterTaps (phase t0 t1 t2 t3 : Nat) : Nat :=
  let (w0, w1, w2, w3) := weights phase
  (clampInt ((w0 * t0 + w1 * t1 + w2 * t2 + w3 * t3 + 32) / 64) 0 1023).toNat

/-- The pass on the three components, filtered separately with the same weights. -/
def filterColour (phase : Nat) (a b c d : Colour) : Colour :=
  ⟨filterTaps phase a.c0 b.c0 c.c0 d.c0, filterTaps phase a.c1 b.c1 c.c1 d.c1, filterTaps phase a.c2 b.c2 c.c2 d.c2⟩

/-- The integer part of a source position (R52). -/
def posLine (position : Nat) : Nat := position / 65536

/-- The phase of a source position (R52). -/
def posPhase (position : Nat) : Nat := position / 4096 % 16

/-- The four taps around an integer part, each clamped to 0..n−1 (R97, R99). -/
def tapsAround (p n : Nat) : Nat × Nat × Nat × Nat :=
  (min (p - 1) (n - 1), min p (n - 1), min (p + 1) (n - 1), min (p + 2) (n - 1))

/-- The HELD lines of an entry's tag. -/
def heldLines (e : FrameEntry) (slots : List LineSlot) : List LineSlot :=
  slots.filter fun x => x.state == .held && x.tag == e.tag

/-- The line with the highest number, if there is one. -/
def highestOf : List LineSlot → Option LineSlot
  | [] => none
  | x :: xs =>
    match highestOf xs with
    | none => some x
    | some y => if y.line < x.line then some x else some y

/-- The line with the lowest number, if there is one. -/
def lowestOf : List LineSlot → Option LineSlot
  | [] => none
  | x :: xs =>
    match lowestOf xs with
    | none => some x
    | some y => if x.line < y.line then some x else some y

/-- How a source line stands as a tap (R97). -/
inductive TapState
  | held
  | notArrived
  | lost
  deriving DecidableEq, Repr

/-- A tap is held; or not yet arrived, its number at or above the lines begun or its slot FILLING; or lost (R97). -/
def tapState (e : FrameEntry) (slots : List LineSlot) (line : Nat) : TapState :=
  if slots.any (fun x => x.state == .held && x.tag == e.tag && x.line == line) then .held
  else if e.begun ≤ line ∨ slots.any (fun x => x.state == .filling && x.tag == e.tag && x.line == line) = true then
    .notArrived
  else .lost

/-- The slot a tap is read from; `none` is the record fill colour (R97, R98). -/
def tapSource (e : FrameEntry) (slots : List LineSlot) (line : Nat) : Option LineSlot :=
  let held := heldLines e slots
  match tapState e slots line with
  | .held => held.find? (·.line == line)
  | .notArrived => highestOf held
  | .lost =>
    match highestOf (held.filter (·.line < line)) with
    | some x => some x
    | none => lowestOf (held.filter (line < ·.line))

/-- The pixel of a tap at a source column: an unwritten position reads as the last pixel written, and a line with no pixel
written as the record fill colour (R92). -/
def tapPixel (fill : Colour) (src : Option LineSlot) (col : Nat) : Colour :=
  match src with
  | none => fill
  | some x => x.own.getD col (x.own.getLast?.getD fill)

/-- The vertical taps of picture line j (R97). -/
def verticalTaps (p : Plan) (j : Nat) : Nat × Nat × Nat × Nat := tapsAround (posLine (j * p.sv)) p.hin

/-- A picture line with a tap not yet arrived is an underrun line (R97). -/
def isUnderrun (e : FrameEntry) (slots : List LineSlot) (j : Nat) : Bool :=
  let (a, b, c, d) := verticalTaps e.plan j
  [a, b, c, d].any fun l => tapState e slots l == .notArrived

/-- One picture pixel: the vertical pass on four source columns, then the horizontal pass (R99). -/
def picturePixel (e : FrameEntry) (slots : List LineSlot) (j x : Nat) : Colour :=
  let (la, lb, lc, ld) := verticalTaps e.plan j
  let (ca, cb, cc, cd) := tapsAround (posLine (x * e.plan.sh)) e.plan.win
  let column := fun col =>
    filterColour (posPhase (j * e.plan.sv)) (tapPixel e.fill (tapSource e slots la) col)
      (tapPixel e.fill (tapSource e slots lb) col) (tapPixel e.fill (tapSource e slots lc) col)
      (tapPixel e.fill (tapSource e slots ld) col)
  filterColour (posPhase (x * e.plan.sh)) (column ca) (column cb) (column cc) (column cd)

/-- The base line of picture line j: the picture pixels, with the record fill colour left and right of them (R95). -/
def pictureLine (e : FrameEntry) (slots : List LineSlot) (wp j : Nat) : List Colour :=
  (List.range wp).map fun x =>
    if e.plan.xoff ≤ x ∧ x < e.plan.xoff + e.plan.wout then picturePixel e slots j (x - e.plan.xoff) else e.fill

/-- A line of one colour. -/
def plainLine (wp : Nat) (c : Colour) : List Colour := List.replicate wp c

/-- The release at the start of picture line j: the entry's slots below f(j) (R96). -/
def releaseBelow (e : FrameEntry) (j : Nat) (l : LineStore) : LineStore :=
  releaseSlots (fun x => x.tag == e.tag && decide (x.line < lowestLine e.plan.sv j)) l

/-- The end of the last picture line: the entry's HELD slots are released and storing closes (R94, R96). -/
def endPicture (e : FrameEntry) (l : LineStore) : LineStore :=
  closeStoring e.start (releaseSlots (fun x => x.tag == e.tag && x.state == .held) l)

/-- The SCANNING entry's count of picture lines begun. -/
def notePictureLine (j : Nat) (l : LineStore) : LineStore :=
  mapEntries (fun e => e.phase == .scanning) (fun e => { e with nextLine := j + 1 }) l

/-- What the start of panel line y of a LIVE scan does in the line store: its new state, the base line, and whether the
line is an underrun line (R95 to R99, R102). -/
def storePanelLine (e : FrameEntry) (wp y : Nat) (l : LineStore) : LineStore × List Colour × Bool :=
  let p := e.plan
  let inPicture := p.yoff ≤ y ∧ y < p.yoff + p.hout
  match e.mode with
  | .fillOut => (if inPicture then notePictureLine (y - p.yoff) l else l, plainLine wp e.fill, false)
  | .live =>
    if inPicture then
      let j := y - p.yoff
      let l' := notePictureLine j (releaseBelow e j l)
      (l', pictureLine e l'.slots wp j, isUnderrun e l'.slots j)
    else if y = p.yoff + p.hout then (endPicture e l, plainLine wp e.fill, false)
    else (l, plainLine wp e.fill, false)

end Sys2Proof.Machine
end

