-- ==== Sys2Proof/Machine/Overlay.lean ====
section
/-! DEFINITION. The Overlay Merge Unit (section 7): figures text, the windows eligible on a line, and the merge. -/

namespace Sys2Proof.Machine

/-! ### Figures text (R141, R142) -/

/-- The decimal digits of a number without leading zeros, most significant first; `fuel + 1` digits at most. -/
def digitsOf : Nat → Nat → List Nat → List Nat
  | 0, n, acc => n % 10 :: acc
  | fuel + 1, n, acc => if n < 10 then n :: acc else digitsOf fuel (n / 10) (n % 10 :: acc)

/-- A count's digits: no count shown has more than eight (R142). -/
def decimal (n : Nat) : List Nat := digitsOf 7 n []

/-- A value in tenths: its whole part, a full stop, and its last digit (R142). -/
def tenthsText (u : Nat) : List Nat := decimal (u / 10) ++ [37, u % 10]

/-- The unknown text "---.-" of a rate or a time (R142). -/
def unknownTenths : List Nat := [38, 38, 38, 37, 38]

/-- The rate of a period in tenths of a hertz, limited to 9,999 (R142). The quotient for a period of 0 is a free value
(assumption 8). -/
def rateTenths (p : Nat) : Nat :=
  let dividend := 1000000000 + p / 2
  min 9999 (if p = 0 then Config.rateOfZeroPeriod dividend else dividend / p)

/-- The text of a rate. -/
def rateText (p : Nat) : List Nat := tenthsText (rateTenths p)

/-- The text of a time in ticks, in tenths of a microsecond (R142). -/
def microText (t : Int) : List Nat :=
  let u := min 99999 ((t.natAbs + 5) / 10)
  (if t < 0 ∧ 0 < u then [38] else []) ++ tenthsText u

/-- The text of a count (R142). -/
def countText (n : Nat) : List Nat := decimal (min n 99999999)

/-- A number text, right-aligned in its row of 16 cells; the other cells hold the space glyph (R142). -/
def alignRight (txt : List Nat) : List Nat := List.replicate (16 - txt.length) spaceGlyph ++ txt

/-- A label, left-aligned in its row (R142). -/
def alignLeft (txt : List Nat) : List Nat := txt ++ List.replicate (16 - txt.length) spaceGlyph

/-- The row of one selector, from the values as they stand (R141). The selector NONE has no row. -/
def rowText (s : State) : Selector → List Nat
  | .none => []
  | .sourceRate => alignRight (((estimate s.mon.periods).map rateText).getD unknownTenths)
  | .panelRate =>
    alignRight (match s.pacer.lastInterval with
      | some (n + 1) => rateText (n + 1)
      | _ => unknownTenths)
  | .startLag => alignRight ((s.plan.map fun p => microText p.de).getD unknownTenths)
  | .addedLag => alignRight ((s.pacer.lastLag.map fun a => microText a).getD unknownTenths)
  | .skipped => alignRight (((activeRecord s).map fun r => countText r.stats.skipped).getD [38])
  | .redraws => alignRight (((activeRecord s).map fun r => countText (r.stats.predicted + r.stats.forced)).getD [38])
  | .label => alignLeft ((((activeRecord s).bind (·.content)).map (·.label)).getD [])

/-- The figures text of a window kind, one row per selector; the other kinds hold no text. -/
def textOf (s : State) : WindowKind → List (List Nat)
  | .figures _ _ selectors => selectors.map (rowText s)
  | _ => []

/-- A window whose text is latched and whose launch count returns to 0 (R126, R143, R145). -/
def Window.latch (s : State) (w : Window) : Window :=
  match w.definition with
  | some d => { w with text := textOf s d.kind, launches := 0 }
  | none => w

/-- One window's part of a LIVE or GENERATED launch (R143). -/
def Window.countLaunch (s : State) (w : Window) : Window :=
  match w.definition with
  | some { kind := .figures _ refresh _, .. } =>
    if refresh ≤ w.launches + 1 then w.latch s else { w with launches := w.launches + 1 }
  | _ => w

/-- A launch delivered to the Overlay Merge Unit: REDRAW launches are not counted (R143). -/
def figuresOnLaunch (kind : LaunchKind) (s : State) : State :=
  match kind with
  | .redraw => s
  | .live | .generated =>
    s.setOverlay { s.overlay with windows := s.overlay.windows.map (Window.countLaunch s) }

/-! ### Which windows a line shows (R124, R131, R132) -/

/-- Whether the slot a window is bound to lets it draw (R124). -/
def bindingDraws (s : State) : Option Nat → Bool
  | none => true
  | some slot => (recordAt s slot).state == .active

/-- A window's definition when the window is eligible on panel line y of a scan wp pixels wide (R124, R131). -/
def eligible (s : State) (wp y : Nat) (w : Window) : Option WindowDef :=
  match w.state, w.definition with
  | .shown, some d =>
    if bindingDraws s d.binding = true ∧ d.y ≤ y ∧ y < d.y + d.h ∧ d.x < wp then some d else none
  | _, _ => none

/-- The windows eligible on a line, by number, in rank order: larger z first, and the higher number first among equals
(R132). -/
def rankedWindows (s : State) (wp y : Nat) : List Nat :=
  (List.range 16).reverse.flatMap fun z =>
    (List.range Config.windowRecords).reverse.filter fun n =>
      match eligible s wp y (windowAt s n) with
      | some d => d.z == z
      | none => false

/-- The windows merged into a line: the first four (R132). -/
def mergedWindows (s : State) (wp y : Nat) : List Nat := (rankedWindows s wp y).take 4

/-- The windows left out of a line (R132). -/
def droppedWindows (s : State) (wp y : Nat) : List Nat := (rankedWindows s wp y).drop 4

/-! ### Window pixels (R133, R139, R140) -/

/-- The 4-bit index held in one half of a byte: the high half for an even position. -/
def nibble (b : Byte) (position : Nat) : Nat := if position % 2 = 0 then b.toNat / 16 else b.toNat % 16

/-- A palette index as a colour: 0 and an index above the palette count are transparent (R133). -/
def paletteColour (palette : List Colour) : Nat → Option Colour
  | 0 => none
  | i + 1 => palette[i]?

/-- The index of an image pixel (R139). -/
def imageIndex (mem : List Host.Cell) (page width u v : Nat) : Nat :=
  nibble (imageRead (page * Config.pageBytes + v * ceilDiv width 2 + u / 2) mem) u

/-- The index of a glyph pixel (R140). -/
def glyphIndex (mem : List Host.Cell) (page g gx gy : Nat) : Nat :=
  nibble (imageRead (page * Config.pageBytes + 64 * g + 4 * gy + gx / 2) mem) gx

/-- The window pixel at a across and b down; `none` is transparent. -/
def windowPixel (mem : List Host.Cell) (d : WindowDef) (text : List (List Nat)) (a b : Nat) : Option Colour :=
  match d.kind with
  | .solid => d.palette[0]?
  | .image page width height =>
    let u := a / d.scale
    let v := b / d.scale
    if width ≤ u ∨ height ≤ v then none else paletteColour d.palette (imageIndex mem page width u v)
  | .figures page _ _ =>
    let a' := a / d.scale
    let b' := b / d.scale
    if 16 ≤ a' / 8 then none
    else
      match (text.getD (b' / 16) [])[a' / 8]? with
      | some g => paletteColour d.palette (glyphIndex mem page g (a' % 8) (b' % 16))
      | none => none

/-- One component blended (R134). -/
def blendComponent (alpha ov pic : Nat) : Nat := (alpha * ov + (16 - alpha) * pic + 8) / 16

/-- A window colour blended over the running value (R134). -/
def blend (alpha : Nat) (ov pic : Colour) : Colour :=
  ⟨blendComponent alpha ov.c0 pic.c0, blendComponent alpha ov.c1 pic.c1, blendComponent alpha ov.c2 pic.c2⟩

/-- One window merged into the running value of panel pixel x of line y (R133, R134). -/
def mergePixel (mem : List Host.Cell) (w : Window) (x y : Nat) (pic : Colour) : Colour :=
  match w.definition with
  | none => pic
  | some d =>
    if d.x ≤ x ∧ x < d.x + d.w then
      match windowPixel mem d w.text (x - d.x) (y - d.y) with
      | some c => blend d.alpha c pic
      | none => pic
    else pic

/-- A base line with the chosen windows merged, the lowest-ranked first (R134). -/
def mergeLine (s : State) (wp y : Nat) (base : List Colour) : List Colour :=
  let chosen := (mergedWindows s wp y).reverse.map (windowAt s)
  (base.zip (List.range base.length)).map fun (pic, x) =>
    chosen.foldl (fun acc w => mergePixel s.overlay.image w x y acc) pic

/-- One window left out of a line: its dropped-lines counter rises, saturating (R132). -/
def dropLine (win : Nat) (s : State) : State :=
  deliver .clipped (setWindow win { windowAt s win with dropped := satAdd 65535 (windowAt s win).dropped 1 } s)

/-- The windows left out of a line are counted and CLIPPED delivered for each (R132). -/
def dropLines (wins : List Nat) (s : State) : State := wins.foldl (fun acc n => dropLine n acc) s

end Sys2Proof.Machine
end

