-- ==== Sys2Proof/Machine/Panel.lean ====
section
/-! DEFINITION. The Panel Port's own operations (section 6): the frame cycle, profile switching and the stop. -/

namespace Sys2Proof.Machine

/-! ### Line times (R112) -/

/-- The start of line n of a frame. -/
def PanelFrame.lineStart (f : PanelFrame) (n : Nat) : Nat := f.launch + ceilDiv (n * f.lf) 16

/-- The start of active line y. -/
def PanelFrame.activeStart (f : PanelFrame) (y : Nat) : Nat := f.lineStart (f.nlead + y)

/-- The scan end, which is also the start of the first trail line. -/
def PanelFrame.scanEnd (f : PanelFrame) : Nat := f.lineStart (f.nlead + f.hp)

/-- The trail end, which is the start of the first blank line. -/
def PanelFrame.trailEnd (f : PanelFrame) : Nat := f.lineStart (f.nlead + f.hp + f.nfpMin)

/-- Line markers sent by time t of lines that begin at `from_ + ceil(n·period/16)`, n from 0 (R112). -/
def markersBy (from_ period t : Nat) : Nat :=
  if t < from_ ∨ period = 0 then 0 else (t - from_) * 16 / period + 1

/-- Line markers sent by time t since the last launch or switch end (R110, R112, R119): the lead, active, trail and blank
lines begin one after another at one period. In IDLE and SWITCHING none is sent. -/
def lineMarkers (s : State) (t : Nat) : Nat :=
  match s.panel.state with
  | .idle | .switching => 0
  | .blank | .lead | .scan | .trail => markersBy s.panel.blankFrom s.panel.blankPeriod t

/-! ### The outputs -/

/-- Data-enable low: no pixel is sent (R182). -/
def PanelOut.low (o : PanelOut) : PanelOut := { o with dataEnable := false, line := [] }

/-- One transfer at the panel output (R182): data-enable, and the pixels of the four lanes PO_D0 to PO_D3. -/
structure PanelTransfer where
  dataEnable : Bool
  d0 : Colour
  d1 : Colour
  d2 : Colour
  d3 : Colour
  deriving DecidableEq, Repr

/-- A transfer with data-enable low: every component 0 (R182). -/
def PanelTransfer.low : PanelTransfer := ⟨false, .black, .black, .black, .black⟩

/-- A line's pixels, four per transfer, in lane order (R113, R182). A line is a multiple of four pixels (R106); pixels left over
from four make no transfer. -/
def transfersOf : List Colour → List PanelTransfer
  | a :: b :: c :: d :: rest => ⟨true, a, b, c, d⟩ :: transfersOf rest
  | _ => []

/-- The transfer at a place in the panel line that is being sent, from the line's start: one of the line's own while they
last, and one with data-enable low after them and on a line that sends no pixels (R112, R182). -/
def PanelOut.transfer (o : PanelOut) (n : Nat) : PanelTransfer :=
  if o.dataEnable then (transfersOf o.line).getD n .low else .low

/-! ### Switching (R118, R119) -/

/-- The switch begins at time b: the port enters SWITCHING and reports begin and end time to the pacer (R118, R78). -/
def beginSwitch (b : Nat) (s : State) : State :=
  let endAt := b + (currentProfile s).switchTime
  (s.setPanel { s.panel with
      state := .switching, phase := .switching endAt, old := none, frame := none, out := s.panel.out.low }).setPacer
    { s.pacer with tracking := .switching endAt }

/-- The port acts on a switch request to profile p (R118, R119). -/
def panelSwitch (p : Nat) (toCome : Bool) (s : State) : State :=
  match s.panel.phase with
  | .noSwitch =>
    let s' := s.setPanel { s.panel with old := s.panel.current, current := some p }
    match s.panel.state with
    | .idle | .blank | .switching =>
      if toCome then s'.setPanel { s'.panel with phase := .pending true } else beginSwitch s.now s'
    | .lead | .scan | .trail => s'.setPanel { s'.panel with phase := .pending toCome }
  | .pending l => s.setPanel { s.panel with current := some p, phase := .pending (l || toCome) }
  | .switching _ => beginSwitch s.now (s.setPanel { s.panel with current := some p })

/-- The pacer requests a switch and follows it (R75, R78, R118): it keeps no schedule and waits. The request carries a
launch to come when a live launch is pending. -/
def requestSwitch (p : Nat) (s : State) : State :=
  panelSwitch p s.pacer.pending.isSome (s.setPacer { s.pacer with tracking := .waiting, schedule := [] })

/-- A launch to come is withdrawn (R118): the switch then begins at the trail end of the frame in progress, or at once
when there is none. -/
def withdrawToCome (s : State) : State :=
  match s.panel.phase with
  | .pending true =>
    let s' := s.setPanel { s.panel with phase := .pending false }
    if s.panel.frame.isNone then beginSwitch s.now s' else s'
  | _ => s

/-- The port leaves SWITCHING at the switch end: to IDLE under a pending stop, otherwise to BLANK at Lp_min of the current
profile, counted from the switch end (R119). Reaching IDLE carries the stop out. -/
def endSwitch (at_ : Nat) (s : State) : State :=
  if s.panel.stopPending then
    s.setPanel { s.panel with phase := .noSwitch, state := .idle, stopPending := false }
  else
    s.setPanel { s.panel with
      phase := .noSwitch, state := .blank, blankPeriod := (currentProfile s).lpMin, blankFrom := at_ }

/-! ### The stop (R120) -/

/-- The port is asked to stop: it completes the frame or the switch in progress and then goes IDLE (R120). -/
def portStop (s : State) : State :=
  match s.panel.phase with
  | .noSwitch =>
    match s.panel.state with
    | .idle => s
    | .blank => s.setPanel { s.panel with state := .idle }
    | .lead | .scan | .trail | .switching => s.setPanel { s.panel with stopPending := true }
  | .pending _ | .switching _ => withdrawToCome (s.setPanel { s.panel with stopPending := true })

/-! ### The frame cycle -/

/-- The profile a launch runs on: the old profile while a switch is pending with a launch to come, otherwise the current
one (R111). Its fields are those the table holds at the launch, also where PROFILE_SET has rewritten or cleared the old profile
since the switch was requested (assumption 43). -/
def launchProfileIndex (s : State) : Option Nat :=
  match s.panel.phase with
  | .pending true => s.panel.old
  | _ => s.panel.current

/-- The fields of that profile. -/
def launchProfile (s : State) : Profile :=
  match launchProfileIndex s with
  | some i => profileAt s i
  | none => .invalid

/-- A launch to come is made by the launch (R118). -/
def SwitchPhase.launchMade : SwitchPhase → SwitchPhase
  | .pending _ => .pending false
  | p => p

/-- The record fill colour of the frame a LIVE launch binds: that of the DECIDED entry (R111). -/
def launchFill (kind : LaunchKind) (s : State) : Colour :=
  match kind with
  | .live => ((decidedEntry s.store).map (·.fill)).getD .black
  | .generated | .redraw => .black

/-- The port begins a frame at a launch: LEAD, the frame marker, the redraw marker for a REDRAW; a pending stop is
cleared, and a LIVE launch binds the DECIDED entry (R111, R112, R115, R95). A frame still in progress is replaced at once, with
no scan end for the stage, and the entry of its scan ends (assumption 42). -/
def beginFrame (kind : LaunchKind) (lf at_ : Nat) (s : State) : State :=
  let p := launchProfile s
  let s' := s.setPanel { s.panel with
    state := .lead
    phase := s.panel.phase.launchMade
    stopPending := false
    frame := some { launch := at_, kind, lf, profile := launchProfileIndex s, wp := p.wp, hp := p.hp, nlead := p.nlead,
                    nfpMin := p.nfpMin, fill := launchFill kind s, nextLine := 0 }
    blankPeriod := lf
    blankFrom := at_
    out := { s.panel.out.low with
      frameMarkers := s.panel.out.frameMarkers + 1, redrawMarker := decide (kind = .redraw) } }
  let l := endScan s.store
  s'.setStore (if kind = .live then bindEntry l else l)

/-- The trail end of the frame in progress: a waiting switch begins, a pending stop takes the port to IDLE, and otherwise
it enters BLANK (R116). -/
def endTrail (at_ : Nat) (s : State) : State :=
  let s' := s.setPanel { s.panel with frame := none }
  match s.panel.phase with
  | .pending false => beginSwitch at_ s'
  | .noSwitch =>
    if s.panel.stopPending then s'.setPanel { s'.panel with state := .idle, stopPending := false }
    else s'.setPanel { s'.panel with state := .blank }
  | .pending true | .switching _ => s'.setPanel { s'.panel with state := .blank }

end Sys2Proof.Machine
end

