-- ==== Sys2Proof/Machine/Pacer.lean ====
section
/-! DEFINITION. The Frame Pacer (section 4): timers, the schedule, launches, the launch decision, and the changes of pacer
state. -/

namespace Sys2Proof.Machine

/-! ### The earliest allowed time and the forced deadline -/

/-- e = L_last + Tmin_last, which exists whenever a last launch is recorded (R63). -/
def earliest (s : State) : Option Nat := s.pacer.last.map fun l => l.time + l.spacing

/-- The forced deadline's time, L_last + Tmax of the current profile (R64). -/
def deadlineTime (s : State) : Option Nat := s.pacer.last.map fun l => l.time + (currentProfile s).tmax

/-- The pacer states in which launches are made (4.1). -/
def PacerState.launching : PacerState → Bool
  | .freeRun | .live | .hold => true
  | .standby | .rest => false

/-- No launch is due at or before a deadline: neither the pending live launch nor an entry of the schedule (R64). -/
def noneDueBy (p : Pacer) (t : Nat) : Bool :=
  (match p.pending with
    | some l => decide (t < l.time)
    | none => true) && p.schedule.all fun x => decide (t < x.time)

/-- A time is earlier than e (R63). -/
def beforeEarliest (s : State) (t : Nat) : Bool := ((earliest s).map fun e => decide (t < e)).getD false

/-- The forced deadline when it is armed, evaluated at the present moment, by R64's conditions. A forced launch is never earlier
than e (R63, R64): a deadline that is, which a profile rewritten in STANDBY or REST can bring, is not armed (assumption 41). -/
def armedDeadline (s : State) : Option Nat :=
  (deadlineTime s).filter fun d =>
    decide (s.pacer.state.launching = true ∧ s.pacer.tracking = .noSwitch ∧ noneDueBy s.pacer d = true ∧ s.now ≤ d
      ∧ beforeEarliest s d = false)

/-- The arming of the forced deadline evaluated again (R64). -/
def rearm (s : State) : State := s.setPacer { s.pacer with deadline := armedDeadline s }

/-! ### Timers (R76, R80) -/

/-- What remains of a timer at time t; 0 when it is stopped (R86). -/
def Timer.left (t : Nat) : Timer → Nat
  | .stopped => 0
  | .paused n => n
  | .running e => e - t

/-- A timer made to run or to pause; a stopped timer stays stopped. -/
def Timer.set (run : Bool) (t : Nat) : Timer → Timer
  | .stopped => .stopped
  | .paused n => if run then .running (t + n) else .paused n
  | .running e => if run then .running e else .paused (e - t)

/-- The rest timer runs in FREE_RUN while the monitor is NO_SIGNAL, unless the rest time is 0 (R80). -/
def restRuns (s : State) : Bool :=
  decide (s.pacer.state = .freeRun ∧ s.mon.state = .noSignal ∧ s.pacer.restTime ≠ 0)

/-- The rest timer running or paused as the pacer and monitor states have it (R80). -/
def syncRest (s : State) : State :=
  s.setPacer { s.pacer with restTimer := s.pacer.restTimer.set (restRuns s) s.now }

/-- The rest timer as its loading leaves it: the rest time, or stopped when that is 0 (R80, R85). -/
def Pacer.loadedRest (p : Pacer) : Timer :=
  if p.restTime = 0 then .stopped else .paused (p.restTime * Config.tenthTicks)

/-- The rest timer loaded with the rest time (R80, R85). -/
def loadRest (s : State) : State := s.setPacer { s.pacer with restTimer := s.pacer.loadedRest }

/-- What follows every change to the pacer, the monitor state or the schedule: the rest timer and the arming of the forced
deadline are evaluated again (R64, R80). -/
def settlePacer (s : State) : State := rearm (syncRest s)

/-! ### The schedule (R65, R66, R72) -/

/-- The kind of a periodic launch in a pacer state: GENERATED, but a REDRAW in HOLD (R66). -/
def PacerState.periodicKind : PacerState → LaunchKind
  | .hold => .redraw
  | _ => .generated

/-- The schedule of one periodic launch, of the kind for the pacer state; none while a switch is pending or in progress
(R66). -/
def periodicAt (t : Nat) (s : State) : State :=
  s.setPacer { s.pacer with schedule :=
    if s.pacer.tracking = .noSwitch then [{ time := t, reason := .periodic, kind := s.pacer.state.periodicKind }] else [] }

/-- The time of the next periodic launch after the last launch: the later of L_last + FR and e (R66). -/
def periodAfterLast (s : State) : Nat :=
  match s.pacer.last with
  | some l => max (l.time + (currentProfile s).fr) (l.time + l.spacing)
  | none => 0

/-- The periodic launch scheduled on entry: the latest of the time of entry, L_last + FR and e (R66). -/
def periodicOnEntry (s : State) : State := periodicAt (max s.now (periodAfterLast s)) s

/-- The periodic launch scheduled after a launch in FREE_RUN or HOLD (R66). -/
def periodicAfterLaunch (s : State) : State :=
  match s.pacer.state with
  | .freeRun | .hold => periodicAt (periodAfterLast s) s
  | .standby | .live | .rest => s

/-- The predicted redraws from an anchor time, less those whose time has passed (R72). -/
def predictions (anchor : Nat) (s : State) : List SchedEntry :=
  match estimate s.mon.periods with
  | none => []
  | some p =>
    let m := min 16 (ceilDiv p (currentProfile s).tmax)
    if m < 2 then []
    else
      ((List.range (m - 1)).map fun k =>
        { time := anchor + (k + 1) * (p / m), reason := .predicted, kind := .redraw : SchedEntry }).filter
        fun x => decide (s.now ≤ x.time)

/-- Predicted redraws scheduled into an emptied schedule; none is kept while a switch is pending or in progress (R65, R72,
R78). -/
def schedulePredictions (anchor : Nat) (s : State) : State :=
  s.setPacer { s.pacer with schedule := if s.pacer.tracking = .noSwitch then predictions anchor s else [] }

/-! ### Launches (R62) -/

/-- The line period of a launch that is not a live one: the Lp of the plan in force in LIVE, otherwise Lp_min of the
current profile (R62). -/
def launchPeriod (s : State) : Nat :=
  match s.pacer.state, s.plan with
  | .live, some p => p.lp
  | _, _ => (currentProfile s).lpMin

/-- A launch: the port begins the frame, and the pacer records the last interval and the last launch (R62). -/
def makeLaunch (kind : LaunchKind) (reason : LaunchReason) (lf at_ : Nat) (s : State) : State :=
  let spacing := tminAt (launchProfile s) lf
  (beginFrame kind lf at_ s).setPacer
    { s.pacer with
      lastInterval := s.pacer.last.map fun l => at_ - l.time
      last := some { time := at_, kind, reason, spacing } }

/-- The first entry of the schedule removed. -/
def popSchedule (s : State) : State := s.setPacer { s.pacer with schedule := s.pacer.schedule.tail }

/-- A cancellable launch whose time has come: dropped when it is earlier than e, made otherwise; in FREE_RUN and HOLD the
next periodic launch is scheduled (R63, R66, R73). -/
def takeEntry (x : SchedEntry) (s : State) : State :=
  let s' := popSchedule s
  if beforeEarliest s' x.time = true then periodicAfterLaunch s'
  else
    let s2 := makeLaunch x.kind x.reason (launchPeriod s') x.time s'
    let s3 := if x.reason = .predicted then report Stats.addPredicted s2 else s2
    figuresOnLaunch x.kind (periodicAfterLaunch s3)

/-- The kind of a forced launch (R64). -/
def forcedKind (s : State) : LaunchKind :=
  match s.pacer.state with
  | .hold => .redraw
  | .live => if (currentProfile s).redraw then .redraw else .generated
  | .freeRun | .standby | .rest => .generated

/-- The forced launch, at exactly its deadline (R64). -/
def takeForced (d : Nat) (s : State) : State :=
  let k := forcedKind s
  figuresOnLaunch k (periodicAfterLaunch (report Stats.addForced (makeLaunch k .forced (launchPeriod s) d s)))

/-- The live launch (R71): its records, its report, the figures, and the predictions that follow under the plan in force. It is
made at the time decided, also where a launch made since at a replaced plan's Lp leaves a later e (assumption 42). -/
def takeLive (x : PendingLaunch) (s : State) : State :=
  let s1 := makeLaunch .live .live x.plan.lp x.time s
  let s2 := s1.setPacer { s1.pacer with lastLive := some x.time, lastLag := some x.lag, pending := none }
  let s3 := figuresOnLaunch .live (report (Stats.addLive x.lag x.cls) s2)
  match s3.plan with
  | some p => if p.predict then schedulePredictions x.time s3 else s3.setPacer { s3.pacer with schedule := [] }
  | none => s3.setPacer { s3.pacer with schedule := [] }

/-! ### The launch decision (R67 to R70, R78) -/

/-- A launch made or found to be made: its time, its spacing, and whether it is live. -/
structure Deciding where
  time : Nat
  spacing : Nat
  live : Bool
  deriving DecidableEq, Repr

/-- The forced launch that follows a last launch, if there will be one between now and d: Tmax after it, and not before the
earliest time it leaves (R64, R68; assumption 41). -/
def forcedAfter (now d tmax : Nat) (last : Option Deciding) : Option Nat :=
  last.bind fun l => if now ≤ l.time + tmax ∧ l.time + tmax ≤ d ∧ l.spacing ≤ tmax then some (l.time + tmax) else none

/-- A scheduled entry that comes before the earliest time a last launch leaves is dropped (R63). -/
def droppedAfter (last : Option Deciding) (x : SchedEntry) : Bool :=
  (last.map fun l => decide (x.time < l.time + l.spacing)).getD false

/-- The launches that will be made at or before d without the frame being decided (R68, step 3): the scheduled entries, an
entry before the earliest time being dropped, and the forced launches at Tmax after the last one when no launch is due by
then. `tmin` is the spacing of each. The last of them is returned; `fuel` bounds their number. -/
def launchesBy (now d tmax tmin : Nat) : Nat → Option Deciding → List SchedEntry → Option Deciding
  | 0, last, _ => last
  | fuel + 1, last, entries =>
    match entries, forcedAfter now d tmax last with
    | [], none => last
    | [], some t => launchesBy now d tmax tmin fuel (some ⟨t, tmin, false⟩) []
    | x :: xs, some t =>
      if t < x.time then launchesBy now d tmax tmin fuel (some ⟨t, tmin, false⟩) (x :: xs)
      else if droppedAfter last x = true then launchesBy now d tmax tmin fuel last xs
      else launchesBy now d tmax tmin fuel (some ⟨x.time, tmin, false⟩) xs
    | x :: xs, none =>
      if droppedAfter last x = true then launchesBy now d tmax tmin fuel last xs
      else launchesBy now d tmax tmin fuel (some ⟨x.time, tmin, false⟩) xs

/-- The deciding launch: the last of the launches made so far and those found (R68, step 4). -/
def decidingLaunch (d tmin : Nat) (entries : List SchedEntry) (s : State) : Option Deciding :=
  let tmax := (currentProfile s).tmax
  launchesBy s.now d tmax tmin (entries.length + (d - s.now) / tmax + 2)
    (s.pacer.last.map fun l => ⟨l.time, l.spacing, decide (l.kind = .live)⟩) entries

/-- A skipped frame: reported to the catalogue, and SKIPPED delivered (R67, R70, R78). -/
def skipFrame (s : State) : State := deliver .skipped (report Stats.addSkipped s)

/-- The record fill colour of the ACTIVE record. -/
def activeFill (s : State) : Colour := (((activeRecord s).bind (·.content)).map (·.present.fill)).getD .black

/-- The frame whose source frame start is now is to be stored: the line store creates its entry, with the format and
depth sampled there (R69, R90, R92). -/
def storeFrame (plan : Plan) (s : State) : State :=
  s.setStore (createEntry s.now plan (activeFill s)
    ((s.mon.frame.map (·.format)).getD .full) ((s.mon.frame.map (·.depth)).getD .d8) s.store)

/-- The frame is presented: a pending live launch at d + A, and the frame marked for storing (R69). -/
def presentFrame (plan : Plan) (d lag : Nat) (cls : Option DeferClass) (s : State) : State :=
  storeFrame plan (s.setPacer { s.pacer with pending := some { time := d + lag, plan, lag, cls } })

/-- The launch decision (R68 to R70). -/
def decideFrame (plan : Plan) (s : State) : State :=
  let d := s.now + plan.w
  let kept := s.pacer.schedule.filter fun x => decide (x.time + plan.tmin ≤ d)
  let s1 := s.setPacer { s.pacer with schedule := kept }
  let deciding := decidingLaunch d plan.tmin kept s1
  let lag := (deciding.map fun l => l.time + l.spacing - d).getD 0
  if lag ≤ plan.limit then
    let cls := if lag = 0 then none else deciding.map fun l => if l.live then DeferClass.overrate else DeferClass.collision
    presentFrame plan d lag cls s1
  else
    let s2 := skipFrame s1
    if plan.predict then
      match s2.pacer.last with
      | some l => schedulePredictions l.time s2
      | none => s2.setPacer { s2.pacer with schedule := [] }
    else s2

/-- A source frame start delivered to the pacer (R67, R78). -/
def pacerFrameStart (s : State) : State :=
  match s.pacer.state, s.plan with
  | .live, some plan =>
    if s.pacer.pending.isSome then skipFrame s
    else
      match s.pacer.tracking with
      | .noSwitch => decideFrame plan s
      | .waiting => skipFrame s
      | .switching e => if e ≤ s.now + plan.w then presentFrame plan (s.now + plan.w) 0 none s else skipFrame s
  | _, _ => s

/-! ### Changes of pacer state -/

/-- The pacer state changed. -/
def setPacerState (p : PacerState) (s : State) : State := s.setPacer { s.pacer with state := p }

/-- The hold timer stopped. -/
def stopHold (s : State) : State := s.setPacer { s.pacer with holdTimer := .stopped }

/-- The schedule emptied. -/
def emptySchedule (s : State) : State := s.setPacer { s.pacer with schedule := [] }

/-- Entry to FREE_RUN by START or from LIVE: one periodic launch is scheduled (R66). -/
def enterFreeRun (s : State) : State := periodicOnEntry (setPacerState .freeRun s)

/-- Entry to HOLD: the hold timer is loaded and started, and a periodic REDRAW scheduled (R76, R66). -/
def enterHold (s : State) : State :=
  let s' := setPacerState .hold s
  periodicOnEntry (s'.setPacer
    { s'.pacer with holdTimer := .running (s.now + s.pacer.holdTime * Config.tenthTicks) })

/-- The pacer leaves LIVE at a deactivation: to HOLD when the hold time is above 0 and the current profile is redraw
capable, and to FREE_RUN otherwise (R76). -/
def leaveLive (s : State) : State :=
  if 0 < s.pacer.holdTime ∧ (currentProfile s).redraw = true then enterHold s else enterFreeRun s

/-- The pacer leaves HOLD for FREE_RUN: the hold timer is stopped, and the periodic REDRAW replaced by a GENERATED launch
at the later of now and e (R79). -/
def holdToFreeRun (s : State) : State :=
  periodicAt (max s.now ((earliest s).getD 0)) (stopHold (setPacerState .freeRun s))

/-- Entry to STANDBY (R82): schedule emptied, hold timer stopped, the port asked to stop. -/
def enterStandby (s : State) : State := portStop (stopHold (emptySchedule (setPacerState .standby s)))

/-- Entry to REST (R81): schedule emptied, the port asked to stop, REST delivered. -/
def enterRest (s : State) : State := deliver .rest (portStop (emptySchedule (setPacerState .rest s)))

/-- The pacer follows an activation into LIVE (R75). -/
def pacerActivate (plan : Plan) (s : State) : State :=
  let s' := stopHold (setPacerState .live s)
  if s.panel.current = some plan.profile then s' else requestSwitch plan.profile s'

/-- The pending live launch cancelled: its frame is reported as skipped, SKIPPED delivered, its lines released, and a
launch to come withdrawn (R74, R103, R118). -/
def cancelPending (s : State) : State :=
  match s.pacer.pending with
  | none => s
  | some _ =>
    let s1 := skipFrame (s.setPacer { s.pacer with pending := none })
    withdrawToCome (s1.setStore (withdrawEntry s1.store))

/-- The switch end reported to the pacer (R78): the last launch is forgotten, and in FREE_RUN and HOLD a periodic launch is
scheduled at the switch end. -/
def pacerSwitchEnd (at_ : Nat) (s : State) : State :=
  let s' := s.setPacer { s.pacer with tracking := .noSwitch, last := none }
  match s.pacer.state with
  | .freeRun | .hold => periodicAt at_ s'
  | .standby | .live | .rest => s'

end Sys2Proof.Machine
end

