-- ==== Sys2Proof/Machine/Catalogue.lean ====
section
/-! DEFINITION. The Mode Catalogue (section 2): section chains, matching, lookups, activation and deactivation, and the
application of catalogue edits. -/

namespace Sys2Proof.Machine

/-! ### Matching and candidate order (R30, R31) -/

/-- The number of KEY fields that are not ANY (R20). -/
def specificity (k : Key) : Nat :=
  boolNat k.width.isSome + boolNat k.height.isSome + boolNat k.format.isSome + boolNat k.depth.isSome
    + boolNat k.window.isSome + boolNat k.vrr.isSome
where
  /-- 1 for a field that is not ANY. -/
  boolNat (b : Bool) : Nat := if b then 1 else 0

/-- ANY agrees with every observed value (R30). -/
def agrees {α : Type} [DecidableEq α] (k : Option α) (v : α) : Bool :=
  match k with
  | none => true
  | some x => decide (x = v)

/-- Every KEY field that is not ANY agrees with the observation (R30). -/
def keyMatches (k : Key) (o : Observation) : Bool :=
  agrees k.width o.width && agrees k.height o.height && agrees k.format o.format && agrees k.depth o.depth
    && (match k.window with
        | none => true
        | some (lo, hi) => decide (lo ≤ o.ls ∧ o.ls ≤ hi))
    && agrees k.vrr o.vrr

/-- The content of a slot that is READY or ACTIVE. -/
def ModeRecord.stored (r : ModeRecord) : Option Content :=
  match r.state with
  | .free => none
  | .ready | .active => r.content

/-- A record matches a settled observation that is in range (R30). -/
def recordMatches (o : Observation) (r : ModeRecord) : Bool :=
  match r.stored with
  | some c => !o.outOfRange && keyMatches c.key o
  | none => false

/-- A record's specificity; a FREE slot has none. -/
def recordSpecificity (r : ModeRecord) : Option Nat := r.stored.map fun c => specificity c.key

/-- The candidates for a settled observation: highest specificity first, and lowest slot number first among equals
(R31). -/
def candidates (cat : List ModeRecord) (o : Observation) : List Nat :=
  [6, 5, 4, 3, 2, 1, 0].flatMap fun n =>
    (List.range Config.catalogueSlots).filter fun i =>
      recordMatches o (cat.getD i .free) && recordSpecificity (cat.getD i .free) == some n

/-- The profile a record names. -/
def namedProfile (c : Content) (s : State) : Profile := profileAt s c.present.profile

/-- One planning of a content for a slot against an observation, by the profile table as it stands (R33, R46). -/
def planContent (slot : Nat) (c : Content) (o : Observation) (s : State) : PlanResult :=
  planFor slot o.width o.height o.ls o.slead c (namedProfile c s)

/-- The planning of the record in a slot; a FREE slot has no content and no profile. -/
def planSlot (slot : Nat) (o : Observation) (s : State) : PlanResult :=
  match (recordAt s slot).stored with
  | some c => planContent slot c o s
  | none => .unfit .profile

/-! ### Activation (R34) and lookup (R32, R33) -/

/-- The activation of a fit candidate, in the steps of R34. -/
def activate (slot : Nat) (plan : Plan) (s : State) : State :=
  let r := recordAt s slot
  let s1 := setRecord slot { r with state := .active, fit := .fit plan, stats := r.stats.addActivation } s
  deliver .activated (pacerActivate plan (s1.setPlan (some plan)))

/-- A candidate found unfit (R28, R33). -/
def markUnfit (slot : Nat) (reason : UnfitReason) (s : State) : State :=
  setRecord slot { recordAt s slot with fit := .unfit reason } s

/-- The candidates taken in order: the first that fits is activated; when none fits, UNFIT is delivered once (R33). -/
def lookupOver (o : Observation) : List Nat → State → State
  | [], s => deliver .unfit s
  | i :: rest, s =>
    match planSlot i o s with
    | .fit plan => activate i plan s
    | .unfit reason => lookupOver o rest (markUnfit i reason s)

/-- A lookup that runs (R33). -/
def runLookup (s : State) : State :=
  match candidates s.cat s.mon.obs with
  | [] => deliver .unmatched s
  | c :: cs => lookupOver s.mon.obs (c :: cs) s

/-- Whether a requested lookup runs: the monitor is SETTLED, the pacer in FREE_RUN or HOLD, and no record ACTIVE (R32). -/
def lookupRuns (s : State) : Bool :=
  decide (s.mon.state = .settled ∧ (s.pacer.state = .freeRun ∨ s.pacer.state = .hold)) && (activeSlot s).isNone

/-- A requested lookup is run, or dropped without trace (R32). -/
def requestLookup (s : State) : State := if lookupRuns s then runLookup s else s

/-! ### Deactivation (R36) -/

/-- The steps of a deactivation that leave the pacer's next state to its cause: the pending live launch is cancelled, the
record returns to READY, the SCANNING entry goes to FILL_OUT, and the plan in force is withdrawn (R36, R102). -/
def withdrawActive (s : State) : State :=
  let s1 := cancelPending s
  let s2 := s1.setCat (s1.cat.map fun r => if r.state = .active then { r with state := .ready } else r)
  (s2.setStore (fillOut s2.store)).setPlan none

/-- A deactivation for a cause other than STANDBY (R36, R76); with no record ACTIVE there is none. -/
def deactivate (s : State) : State := if (activeSlot s).isNone then s else leaveLive (withdrawActive s)

/-! ### Applying catalogue edits (R25, R26, R37, R38) -/

/-- A content written into a slot: READY, with a fit state, and statistics 0; the lock is kept (R25, R37). -/
def writeReady (slot : Nat) (c : Content) (fit : Fit) (s : State) : State :=
  setRecord slot { state := .ready, locked := (recordAt s slot).locked, content := some c, fit, stats := .zero } s

/-- A slot emptied: FREE, the lock kept (R26). -/
def emptySlot (slot : Nat) (s : State) : State :=
  setRecord slot { ModeRecord.free with locked := (recordAt s slot).locked } s

/-- The ACTIVE record replaced and kept ACTIVE under the new plan (R37). -/
def keepActive (slot : Nat) (c : Content) (plan : Plan) (s : State) : State :=
  let s1 := setRecord slot
    { state := .active, locked := (recordAt s slot).locked, content := some c, fit := .fit plan,
      stats := { Stats.zero with activations := 1 } } s
  let s2 := s1.setPlan (some plan)
  if s2.panel.current = some plan.profile then s2 else requestSwitch plan.profile s2

/-- Whether a content's key matches the observation as it stands (R30). -/
def contentMatches (c : Content) (s : State) : Bool :=
  decide (s.mon.state = .settled) && !s.mon.obs.outOfRange && keyMatches c.key s.mon.obs

/-- A CAT_STORE edit applied to the ACTIVE slot (R37). -/
def replaceActive (slot : Nat) (c : Content) (s : State) : State :=
  if contentMatches c s then
    match planContent slot c s.mon.obs s with
    | .fit plan => keepActive slot c plan s
    | .unfit reason => writeReady slot c (.unfit reason) (deactivate s)
  else writeReady slot c .untested (deactivate s)

/-- A CAT_STORE edit applied (R25, R37). -/
def applyStore (slot : Nat) (c : Content) (s : State) : State :=
  if (recordAt s slot).state = .active then replaceActive slot c s else writeReady slot c .untested s

/-- A CAT_RETIRE edit applied (R26, R38). -/
def applyRetire (slot : Nat) (s : State) : State :=
  match (recordAt s slot).state with
  | .free => s
  | .ready => emptySlot slot s
  | .active => emptySlot slot (deactivate s)

end Sys2Proof.Machine
end

