-- ==== Sys2Proof/Machine/Stage.lean ====
section
/-! DEFINITION. The Change Stage (section 8): applying the list, application points, and the two occurrences that carry one
with them, the scan end and the switch end. -/

namespace Sys2Proof.Machine

/-! ### Window edits (R126 to R130) -/

/-- A WIN_DEFINE edit applied: the window keeps its state, a FREE one becomes HIDDEN; its dropped-lines counter is 0 and a
figures text is latched at once (R126). -/
def applyDefine (win : Nat) (d : WindowDef) (s : State) : State :=
  let w := windowAt s win
  setWindow win
    { state := if w.state = .free then .hidden else w.state, definition := some d, dropped := 0,
      text := textOf s d.kind, launches := 0 } s

/-- A WIN_PLACE edit applied: x, y, z and alpha replaced; a FREE window is left as it is (R127). -/
def applyPlace (win x y z alpha : Nat) (s : State) : State :=
  let w := windowAt s win
  match w.state, w.definition with
  | .hidden, some d | .shown, some d => setWindow win { w with definition := some { d with x, y, z, alpha } } s
  | _, _ => s

/-- A WIN_SHOW edit applied; a FREE window is left as it is (R128). -/
def applyShow (win : Nat) (shown : Bool) (s : State) : State :=
  let w := windowAt s win
  if w.state = .free then s else setWindow win { w with state := if shown then .shown else .hidden } s

/-- A WIN_RETIRE edit applied: the window becomes FREE; a FREE one is left as it is (R129). -/
def applyRetireWindow (win : Nat) (s : State) : State :=
  if (windowAt s win).state = .free then s else setWindow win .free s

/-- A SET_FILL edit applied (R121). -/
def applyFill (c : Colour) (s : State) : State := s.setPanel { s.panel with fill := c }

/-! ### Applying the list (R149 to R152) -/

/-- One edit carried out by its owner (R149). -/
def applyEdit (e : Edit) (s : State) : State :=
  match e with
  | .catStore slot c => applyStore slot c s
  | .catRetire slot => applyRetire slot s
  | .winDefine win d => applyDefine win d s
  | .winPlace win x y z alpha => applyPlace win x y z alpha s
  | .winShow win shown => applyShow win shown s
  | .winRetire win => applyRetireWindow win s
  | .setFill c => applyFill c s

/-- The window an edit targets. -/
def Edit.window : Edit → Option Nat
  | .winDefine win _ | .winPlace win _ _ _ _ | .winShow win _ | .winRetire win => some win
  | .catStore _ _ | .catRetire _ | .setFill _ => none

/-- The catalogue slot an edit targets. -/
def Edit.slot : Edit → Option Nat
  | .catStore slot _ | .catRetire slot => some slot
  | .winDefine _ _ | .winPlace _ _ _ _ _ | .winShow _ _ | .winRetire _ | .setFill _ => none

/-- An application is visible when its window is SHOWN just before or just after it (R130). -/
def editVisible (e : Edit) (before after : State) : Bool :=
  match e.window with
  | some win => (windowAt before win).state == .shown || (windowAt after win).state == .shown
  | none => false

/-- The edit targets a slot that is ACTIVE when it is applied (R151). -/
def editsActive (e : Edit) (s : State) : Bool :=
  match e.slot with
  | some slot => (recordAt s slot).state == .active
  | none => false

/-- An application under way: the state, and what its closing steps need to know. -/
structure Application where
  st : State
  visible : Bool
  catalogue : Bool
  active : Bool
  deriving DecidableEq, Repr

/-- One edit taken in its turn (R149). -/
def Application.take (a : Application) (e : Edit) : Application :=
  let after := applyEdit e a.st
  { st := after
    visible := a.visible || editVisible e a.st after
    catalogue := a.catalogue || e.slot.isSome
    active := a.active || editsActive e a.st }

/-- The stage list emptied. -/
def emptyStage (s : State) : State := s.setStage { s.stage with edits := [] }

/-- The first closing step: a visible application takes the pacer from HOLD to FREE_RUN (R150). -/
def holdExitReport (visible : Bool) (s : State) : State :=
  if visible = true ∧ s.pacer.state = .hold then holdToFreeRun s else s

/-- The second closing step: the lookup request (R151). -/
def stageLookup (catalogue active : Bool) (s : State) : State :=
  if catalogue = true ∧ s.mon.state = .settled ∧ ((activeSlot s).isNone = true ∨ active = true) then requestLookup s
  else s

/-- The whole list applied, oldest first, and the three closing steps (R149 to R152). -/
def applyList (edits : List Edit) (s : State) : State :=
  let a := edits.foldl Application.take { st := s, visible := false, catalogue := false, active := false }
  deliver .applied (stageLookup a.catalogue a.active (holdExitReport a.visible (emptyStage a.st)))

/-- An application point: it passes with a group open or the list empty, and applies the list otherwise (R147). -/
def applicationPoint (s : State) : State :=
  if s.stage.groupOpen = true ∨ s.stage.edits = [] then s else applyList s.stage.edits s

/-- An edit accepted: it joins the list, and in STANDBY or REST with no group open the whole list is applied at once
(R146, R148). -/
def acceptEdit (e : Edit) (s : State) : State :=
  let s' := s.setStage { s.stage with edits := s.stage.edits ++ [e] }
  match s.pacer.state with
  | .standby | .rest => applicationPoint s'
  | .freeRun | .live | .hold => s'

/-! ### The scan end and the switch end (R116, R119) -/

/-- The line store's part of a scan end: for a LIVE scan the entry's slots are released and the entry removed (R104,
R116). -/
def storeScanEnd (kind : LaunchKind) (s : State) : State :=
  match kind with
  | .live => s.setStore (endScan s.store)
  | .generated | .redraw => s

/-- The scan end: TRAIL, data-enable and redraw marker low, the line store's release, and an application point (R115,
R116). -/
def scanEndOf (f : PanelFrame) (s : State) : State :=
  let s1 := s.setPanel { s.panel with
    state := .trail, out := { s.panel.out.low with redrawMarker := false } }
  applicationPoint (storeScanEnd f.kind s1)

/-- The switch end: the port leaves SWITCHING, and the pacer and the stage are told, in either order. When the
application comes first it finds the port's switch phase already NONE, and when it requests another switch the pacer goes on
following that one (R78, R119, R153; assumption 14). -/
def switchEndOf (endAt : Nat) (stageFirst : Bool) (s : State) : State :=
  let s1 := endSwitch endAt s
  if stageFirst then
    let s2 := applicationPoint s1
    if s2.panel.phase = .noSwitch then pacerSwitchEnd endAt s2 else s2
  else applicationPoint (pacerSwitchEnd endAt s1)

/-- The pending live launch made. Taken at the very end of a switch, before the switch end, it ends the switch at that
instant, and the switch end's application point follows it (R119). -/
def launchPending (x : PendingLaunch) (s : State) : State :=
  match s.panel.phase with
  | .switching e => applicationPoint (takeLive x (pacerSwitchEnd e (endSwitch e s)))
  | .noSwitch | .pending _ => takeLive x s

/-- A live launch that falls at its decision time is made at once (R69). -/
def launchAtOnce (s : State) : State :=
  match s.pacer.pending with
  | some x => if x.time = s.now then launchPending x s else s
  | none => s

/-- A source frame start delivered to the pacer: the decision, and a launch that falls at once (R67, R69). -/
def deliverFrameStart (s : State) : State :=
  if s.pacer.pending.isSome then pacerFrameStart s else launchAtOnce (pacerFrameStart s)

end Sys2Proof.Machine
end

