-- ==== Sys2Proof/Machine/Monitor.lean ====
section
/-! DEFINITION. The Source Timing Monitor (section 1): measuring frames, settling, change and loss. -/

namespace Sys2Proof.Machine

/-! ### Measuring (R3, R4) -/

/-- Whether measurements are out of range (R4). -/
def outOfRange (width height ls : Nat) : Bool :=
  !decide (64 ≤ width ∧ width ≤ 3840 ∧ 64 ≤ height ∧ height ≤ 2160 ∧ 1600 ≤ ls ∧ ls ≤ 320000)

/-- The measurements of a frame, as they are taken into the observation; frames since settle is not a measurement and is
kept (R3, R4). -/
def measured (f : SourceFrame) (o : Observation) : Observation :=
  let width := min f.width0 8191
  let height := min f.lines 4095
  { width, height, format := f.format, depth := f.depth, ls := f.ls, slead := f.slead, vrr := f.vrr, game := f.game,
    outOfRange := outOfRange width height f.ls, sinceSettle := o.sinceSettle }

/-- a and b differ by at most 4 (R8, R11). -/
def within4 (a b : Nat) : Bool := decide (a ≤ b + 4 ∧ b ≤ a + 4)

/-- A frame agrees with the candidate (R8). -/
def frameAgrees (m o : Observation) : Bool :=
  decide (m.width = o.width ∧ m.height = o.height ∧ m.format = o.format ∧ m.depth = o.depth ∧ m.vrr = o.vrr)
    && within4 m.ls o.ls

/-- An active line of the frame closed: line 0 gives the frame's width, and a later line of another width makes the frame
irregular (R3). -/
def closeLine (l : SourceLine) (f : SourceFrame) : SourceFrame :=
  if l.active = true ∧ l.inFrame = true then
    if l.number = 0 then { f with width0 := l.width }
    else { f with regular := f.regular && decide (l.width = f.width0) }
  else f

/-- The line in progress closed into the frame, if there is one. Taken at a source frame start (R2), it has no next line
start yet; that its width is then the pixels counted so far is the model's choice (assumption 22). -/
def closeOpenLine (l : Option SourceLine) (f : SourceFrame) : SourceFrame :=
  match l with
  | some l => closeLine l f
  | none => f

/-! ### Small updates of the monitor -/

def setMonState (m : MonState) (s : State) : State := s.setMon { s.mon with state := m }

/-- The period list emptied (R14). -/
def clearPeriods (s : State) : State := s.setMon { s.mon with periods := [] }

/-- A period entered: capped, and the oldest dropped first when the list holds four (R14). -/
def enterPeriod (p : Nat) (periods : List Nat) : List Nat :=
  (if periods.length < 4 then periods else periods.drop (periods.length - 3)) ++ [min p Config.frameTimeout]

/-- Measurements taken into the observation (R7, R8). -/
def takeIn (f : SourceFrame) (s : State) : State := s.setMon { s.mon with obs := measured f s.mon.obs }

/-! ### Settle, change and loss (R9, R11, R12) -/

/-- The entry to FREE_RUN from STANDBY or REST: the rest timer loaded, a periodic launch scheduled, and a lookup requested
(R32, R81, R83). -/
def leaveRest (s : State) : State := requestLookup (enterFreeRun (loadRest s))

/-- The settle event, delivered to the Event Unit, the catalogue and the pacer, which leaves REST on it when wake-on-source
is set and the current profile VALID (R9, R81). -/
def settle (s : State) : State :=
  let s1 := s.setMon { s.mon with state := .settled, obs := { s.mon.obs with sinceSettle := 0 } }
  let s2 := requestLookup (deliver .settled s1)
  if s2.pacer.state = .rest ∧ s2.pacer.wakeOnSource = true ∧ (currentProfile s2).valid = true then leaveRest s2 else s2

/-- A change declared: CANDIDATE, the period list emptied, and the ACTIVE record deactivated (R11). -/
def declareChange (s : State) : State := deactivate (clearPeriods (setMonState .candidate s))

/-- A loss declared, in any of the three signal states (R12). -/
def declareLoss (s : State) : State :=
  match s.mon.state with
  | .noSignal => s
  | .measuring | .candidate | .settled =>
    deactivate (deliver .lost (s.setMon { Monitor.reset with lossLatch := true }))

/-! ### The frame end (R7, R8, R10, R11) -/

/-- The frame end in CANDIDATE (R8). -/
def candidateEnd (f : SourceFrame) (s : State) : State :=
  if f.regular = false then setMonState .measuring (clearPeriods s)
  else if frameAgrees (measured f s.mon.obs) s.mon.obs then settle (takeIn f s)
  else clearPeriods (takeIn f s)

/-- What the frame end of a complete frame does, by monitor state (R7, R8, R10, R11). -/
def frameEndActs (f : SourceFrame) (s : State) : State :=
  match s.mon.state with
  | .noSignal => s
  | .measuring => if f.regular then setMonState .candidate (takeIn f s) else clearPeriods s
  | .candidate => candidateEnd f s
  | .settled =>
    if min f.lines 4095 < s.mon.obs.height then candidateEnd f (declareChange s)
    else s.setMon { s.mon with obs := { s.mon.obs with sinceSettle := satAdd 65535 s.mon.obs.sinceSettle 1 } }

/-- The frame end of the frame being watched: it is taken once, and closes storing for the frame's entry (R2, R94). -/
def frameEnd (s : State) : State :=
  match s.mon.frame with
  | none => s
  | some f =>
    if f.ended then s
    else
      let f' := closeOpenLine s.mon.line f
      let s1 := s.setMon { s.mon with frame := some { f' with ended := true } }
      frameEndActs f' (s1.setStore (closeStoring f.start s1.store))

/-! ### Occurrences on the pixel input (R2) -/

/-- The monitor watches the pixel input: the port has left STARTING (R2) and there is a signal (R6). -/
def watching (s : State) : Bool := decide (s.ctl.phase = .ready ∧ s.mon.state ≠ .noSignal)

/-- The signal appears: MEASURING, the frame-start timer started, and the pacer told, which loads its rest timer (R6,
R80). -/
def signalAppears (s : State) : State := loadRest (setMonState .measuring s)

/-- The frame-start timer restarted and the period recorded (R13, steps 2 and 3). -/
def recordPeriod (s : State) : State :=
  s.setMon { s.mon with
    timer := some (s.now + Config.frameTimeout)
    periods := (match s.mon.lastStart with
      | some t => enterPeriod (s.now - t) s.mon.periods
      | none => s.mon.periods)
    lastStart := some s.now }

/-- The frame begun by an accepted source frame start, and the line in progress left to the frame before it. -/
def beginSourceFrame (format : Format) (depth : Depth) (vrr game : Bool) (s : State) : State :=
  s.setMon { s.mon with
    frame := some { start := s.now, format, depth, vrr, game, lines := 0, width0 := 0, line0At := 0, ls := 0,
                    slead := 0, regular := true, ended := false }
    line := s.mon.line.map fun l => { l with inFrame := false } }

/-- The GAME flag compared with the game request field; HINT is delivered when they differ (R16). -/
def sampleGame (game : Bool) (s : State) : State :=
  if game = s.mon.obs.game then s
  else deliver .hint (s.setMon { s.mon with obs := { s.mon.obs with game := game } })

/-- The change test at a source frame start (R11). -/
def sampleChange (format : Format) (depth : Depth) (vrr : Bool) (s : State) : State :=
  if s.mon.state = .settled ∧ ¬(format = s.mon.obs.format ∧ depth = s.mon.obs.depth ∧ vrr = s.mon.obs.vrr) then
    declareChange s
  else s

/-- An accepted source frame start, in the five steps of R13. -/
def acceptFrameStart (format : Format) (depth : Depth) (vrr game : Bool) (s : State) : State :=
  let s1 := recordPeriod (frameEnd s)
  let s2 := sampleGame game (sampleChange format depth vrr (beginSourceFrame format depth vrr game s1))
  deliverFrameStart s2

/-- A source frame start (R6, R13). -/
def frameStart (signalOk : Bool) (format : Format) (depth : Depth) (vrr game : Bool) (s : State) : State :=
  if s.ctl.phase = .starting then s
  else
    match s.mon.state with
    | .noSignal => if signalOk then acceptFrameStart format depth vrr game (signalAppears s) else s
    | .measuring | .candidate | .settled => acceptFrameStart format depth vrr game s

/-- A fresh source line. -/
def SourceLine.fresh : SourceLine :=
  { active := false, complete := false, width := 0, number := 0, frameStart := 0, inFrame := false }

/-- The line in progress closed at the next line start: its width goes into its frame, a short line is a change in SETTLED
(R11), and a blank line after the first active line is the frame end (R2). -/
def closeAtLineStart (l : SourceLine) (s : State) : State :=
  if l.active then
    let s1 := s.setMon { s.mon with frame := s.mon.frame.map (closeLine l), line := none }
    if s1.mon.state = .settled ∧ l.width < s1.mon.obs.width then declareChange s1 else s1
  else
    match s.mon.frame with
    | some f => if 0 < f.lines then frameEnd s else s
    | none => s

/-- The line in progress, when its line complete is still to come (R2). -/
def openRef (l : Option SourceLine) : List LineRef :=
  match l with
  | some l => if l.active = true ∧ l.complete = false then [⟨l.frameStart, l.number⟩] else []
  | none => []

/-- A line start (R2). A line on which data-enable has not fallen yet still awaits its line complete. -/
def lineStart (s : State) : State :=
  if watching s then
    let s1 := match s.mon.line with
      | some l => closeAtLineStart l s
      | none => s
    s1.setMon { s1.mon with line := some SourceLine.fresh, uncompleted := s1.mon.uncompleted ++ openRef s.mon.line }
  else s

/-- The frame's measurements at the active-line start of its next line (R3). -/
def SourceFrame.beginLine (t : Nat) (f : SourceFrame) : SourceFrame :=
  { f with
    lines := f.lines + 1
    line0At := if f.lines = 0 then t else f.line0At
    slead := if f.lines = 0 then min (t - f.start) 10000000 else f.slead
    ls := if f.lines = 16 then min (t - f.line0At) 1048575 else f.ls }

/-- The change tests at the active-line start of line i (R11). The line's number is not saturated, so that with H_in at its
limit of 4,095 every frame of more active lines than that is a change, as with W_in (assumption 23). -/
def activeLineChange (i ls : Nat) (s : State) : State :=
  if s.mon.state = .settled ∧ (s.mon.obs.height ≤ i ∨ (i = 16 ∧ within4 ls s.mon.obs.ls = false)) then declareChange s
  else s

/-- An active-line start: the first pixel with data-enable high after a line start (R2). The monitor measures it and tests
for a change, and the line store takes the arrival, in either order (R91). -/
def activeLineStart (storeFirst : Bool) (s : State) : State :=
  match s.mon.line, s.mon.frame with
  | some l, some f =>
    if watching s = true ∧ l.active = false then
      let i := f.lines
      let f' := f.beginLine s.now
      let s1 := s.setMon { s.mon with
        frame := some f'
        line := some { l with active := true, number := i, frameStart := f.start, inFrame := true } }
      if storeFirst then activeLineChange i f'.ls (storeLineStart f.start i s1)
      else storeLineStart f.start i (activeLineChange i f'.ls s1)
    else s
  | _, _ => s

/-- The line store's and the monitor's parts of a transfer (R2, R92): the pixels go into the line's slot until the line
complete, they count toward the line's width, and in SETTLED a pixel beyond W_in is a change (R11). The count is not
saturated, so that with W_in at its limit of 8,191 pixel 8,192 of a line is a change (assumption 23). -/
def pixelTransfer (ps : List RawPixel) (s : State) : State :=
  match s.mon.line with
  | some l =>
    if watching s = true ∧ l.active = true then
      let s1 := if l.complete then s else s.setStore (storePixels l.frameStart l.number ps s.store)
      let l' := { l with width := l.width + ps.length }
      let s2 := s1.setMon { s1.mon with line := some l' }
      if s2.mon.state = .settled ∧ s2.mon.obs.width < l'.width then declareChange s2 else s2
    else s
  | none => s

/-- The line in progress after a fall of data-enable. -/
def SourceLine.fallen (l : SourceLine) : SourceLine := { l with complete := l.complete || l.active }

/-- A fall of data-enable: the line complete of every active line that awaits one, the line in progress and those before a
line start that data-enable stayed high across (R2, R93). -/
def lineComplete (s : State) : State :=
  if watching s then
    (s.setMon { s.mon with line := s.mon.line.map SourceLine.fallen, uncompleted := [] }).setStore
      (completeLines (s.mon.uncompleted ++ openRef s.mon.line) s.store)
  else s

end Sys2Proof.Machine
end

