-- ==== Sys2Proof/Machine/Port.lean ====
section
/-! DEFINITION. The Control Port (section 9): resets, start-up, transactions on the wire, the queues, and the serving of a
request. -/

namespace Sys2Proof.Machine

/-! ### External reset and start-up (R157, R162, R170) -/

/-- Every block after an external reset. The queue of commands is not the part's, the clock does not run back, and image
memory is cleared by the start-up that follows (R145). -/
def externalReset (csLow : Bool) (s : State) : State :=
  { State.reset with
    now := s.now
    pending := s.pending
    overlay := { Overlay.reset with image := s.overlay.image }
    ctl := { ControlPort.reset with heldOff := csLow } }

/-- EXTERNAL_RESET (R18, R43, R45, R87, R105, R122, R145, R156, R170, R176). -/
def execExternalReset (t : Nat) (csLow : Bool) (s : State) : Outcome := .next (externalReset csLow (tick t s))

/-- The end of start-up: image memory reads 0, and the port is READY (R162). -/
def completeStartup (s : State) : State :=
  match s.ctl.phase with
  | .ready => s
  | .starting =>
    (s.setOverlay { s.overlay with image := [] }).setCtl { s.ctl with phase := .ready }

/-- STARTUP_COMPLETE (R162). -/
def execStartupComplete (t : Nat) (s : State) : Outcome := .next (completeStartup (tick t s))

/-- CS_N_SEEN_HIGH (R157): the hold-off ends. -/
def execCsnSeenHigh (t : Nat) (s : State) : Outcome :=
  let s' := tick t s
  .next (s'.setCtl { s'.ctl with heldOff := false })

/-! ### The status bytes (R158, R177) -/

/-- Requests held: those in the queue and the one in processing. -/
def requestsHeld (c : ControlPort) : Nat := c.requests.length + (if c.processing.isSome then 1 else 0)

/-- The capacity in use (R163). -/
def capacityInUse (c : ControlPort) : Nat := requestsHeld c + c.replies.length

def PortPhase.code : PortPhase → Nat
  | .starting => 0
  | .ready => 1

def statusByte0 (s : State) : Byte :=
  byte (128 * s.ctl.phase.code + 64 * boolCode (attention s) + 32 * boolCode (flagSet .portError s) + requestsHeld s.ctl)

def statusByte1 (s : State) : Byte := byte s.ctl.replies.length

/-! ### What the port reads on SDI (R157, R159, R177) -/

/-- The kind a byte 1 names (R177); every other value is an unknown kind. -/
def txnKindOf (b : Byte) : Option TxnKind :=
  if b = 0x01#8 then some .post
  else if b = 0x02#8 then some .fetch
  else if b = 0x03#8 then some .statusOnly
  else none

/-- The kind of a transaction, once its byte 1 is complete (R159). -/
def Txn.kind (x : Txn) : Option TxnKind := x.received.head?.bind txnKindOf

/-- The rising edges of SCK in a transaction so far. -/
def Txn.clocks (x : Txn) : Nat := 8 * x.received.length + x.bits.length

/-- A byte from its eight bits, the most significant first (R157). -/
def byteOf (bits : List Bool) : Byte := BitVec.ofNat 8 (bits.foldl (fun n b => 2 * n + boolCode b) 0)

/-! ### The bytes and bits sent on SDO (R157, R160, R161, R166) -/

/-- The first `n` bytes of a POST, of a malformed transaction, or of one whose kind is not known yet. -/
def postStream (x : Txn) (n : Nat) : List Byte :=
  match x.finding with
  | .undecided => ([x.status0, x.status1] ++ List.replicate n 0x00#8).take n
  | .decided length accept =>
    ([x.status0, x.status1] ++ List.replicate (length + 1) 0x00#8 ++ [accept] ++ List.replicate n 0x00#8).take n
  | .malformed fromByte =>
    ([x.status0, x.status1] ++ List.replicate (fromByte - 3) 0x00#8 ++ List.replicate n 0x03#8).take n

/-- The message a FETCH sends: the chosen reply, or the empty reply. -/
def replyMessage : Option Reply → List Byte
  | some r => [r.code, r.status.code, byte r.data.length] ++ r.data
  | none => [0x00#8, 0xFF#8, 0x00#8]

/-- The first `n` bytes of a FETCH. -/
def fetchStream (x : Txn) (n : Nat) : List Byte :=
  ([x.status0, x.status1] ++ replyMessage x.chosen ++ List.replicate n 0x00#8).take n

/-- The first `n` bytes of a STATUS ONLY transaction. -/
def statusStream (x : Txn) (n : Nat) : List Byte :=
  ([x.status0, x.status1] ++ List.replicate n 0x00#8).take n

/-- The first `n` bytes the port sends in a transaction, by the kind it has read. -/
def Txn.stream (x : Txn) (n : Nat) : List Byte :=
  match x.kind with
  | some .post | none => postStream x n
  | some .fetch => fetchStream x n
  | some .statusOnly => statusStream x n

/-- A byte's bits, most significant first. -/
def byteBits (b : Byte) : List Bool := (List.range 8).map fun i => b.getLsbD (7 - i)

/-- The bits sent by `clocks` rising edges of SCK. -/
def sentBits (stream : Nat → List Byte) (clocks : Nat) : List Bool :=
  ((stream (clocks / 8 + 1)).flatMap byteBits).take clocks

/-- The bit that follows them: the one a falling edge of SCK puts on SDO after the last of them (R157). -/
def nextBit (stream : Nat → List Byte) (clocks : Nat) : Bool :=
  ((stream (clocks / 8 + 1)).flatMap byteBits).getD clocks false

/-- The pin SDO (R157, R170): `none` is high impedance, in which the port holds it while no transaction is in progress, which
is while CS_N is high or transactions are held off; in a transaction the level the port drives. -/
def sdoPin (c : ControlPort) : Option Bool := c.txn.map (·.drive)

/-! ### The queues (R160, R163, R164) -/

/-- The head of the request queue enters processing when no other request is in it. -/
def promote (c : ControlPort) : ControlPort :=
  match c.processing, c.requests with
  | none, r :: rest => { c with processing := some r, requests := rest }
  | _, _ => c

/-- A request accepted: it joins the tail of the queue, and enters processing at once when it can. -/
def enqueue (r : Request) (c : ControlPort) : ControlPort := promote { c with requests := c.requests ++ [r] }

/-- The decision at a request's completion (R160). -/
def acceptByte (c : ControlPort) : Byte :=
  match c.phase with
  | .starting => 0x04#8
  | .ready => if 8 ≤ capacityInUse c then 0x02#8 else 0x01#8

/-! ### A transaction (R157 to R161, R166) -/

/-- The transaction in progress replaced. -/
def putTxn (x : Txn) (s : State) : State := s.setCtl { s.ctl with txn := some x }

/-- SDO changed to the next bit the port sends (R157). -/
def Txn.shiftOut (x : Txn) : Txn := { x with drive := nextBit x.stream x.clocks }

/-- The fall of CS_N: the status snapshot is taken, the oldest reply chosen, and the first bit put on SDO (R157, R166). While
transactions are held off, and inside a transaction, there is no such fall. -/
def beginTxn (s : State) : State :=
  if s.ctl.heldOff = true ∨ s.ctl.txn.isSome = true then s
  else
    putTxn
      (Txn.shiftOut
        { status0 := statusByte0 s, status1 := statusByte1 s, chosen := s.ctl.replies.head?,
          chosenHeld := s.ctl.replies.head?.isSome, bits := [], received := [], finding := .undecided, drive := false }) s

/-- A malformed transaction: 03h from a byte on, and PORT_ERROR (R161). -/
def findMalformed (fromByte : Nat) (x : Txn) (s : State) : State :=
  deliver .portError (putTxn { x with finding := .malformed fromByte } s)

/-- A complete request: accepted or refused, with its accept byte (R160). -/
def completePost (r : Request) (x : Txn) (s : State) : State :=
  let accept := acceptByte s.ctl
  let s' := putTxn { x with finding := .decided r.params.length accept } s
  if accept = 0x01#8 then s'.setCtl (enqueue r s'.ctl) else s'

/-- What the completion of a byte of a POST brings, from byte 3 on: a length above 96 makes it malformed at byte 3, and with
the last parameter the request is complete (R160, R161). -/
def readPost (code length : Byte) (params : List Byte) (x : Txn) (s : State) : State :=
  if Config.maxLength < length.toNat then findMalformed 4 x s
  else if params.length = length.toNat then completePost ⟨code, params⟩ x s
  else putTxn x s

/-- What the completion of a byte brings, in a transaction `x` whose `received` ends with it (R159). Nothing more is read of
one that is malformed, or of a POST whose request is complete, or of a FETCH or a STATUS ONLY. -/
def readByte (x : Txn) (s : State) : State :=
  match x.finding, x.kind, x.received with
  | .undecided, none, [_] => findMalformed 3 x s
  | .undecided, some .post, _ :: code :: length :: params => readPost code length params x s
  | _, _, _ => putTxn x s

/-- One rising edge of SCK, with the level of SDI sampled at it: the eighth of a byte completes the byte (R157). With no
transaction in progress SCK and SDI are ignored. -/
def clockIn (sdi : Bool) (s : State) : State :=
  match s.ctl.txn with
  | none => s
  | some x =>
    let bits := x.bits ++ [sdi]
    if bits.length < 8 then putTxn { x with bits := bits } s
    else readByte { x with bits := [], received := x.received ++ [byteOf bits] } s

/-- One falling edge of SCK: SDO changes to the next bit (R157). With no transaction in progress SCK is ignored. -/
def shiftSdo (s : State) : State :=
  match s.ctl.txn with
  | none => s
  | some x => putTxn x.shiftOut s

/-- One period of SCK: its rising edge, and the falling edge after it. -/
def sckPeriod (s : State) (sdi : Bool) : State := shiftSdo (clockIn sdi s)

/-- The chosen reply was sent whole: every byte from 3 to 5 + m was complete before the rise (R166). -/
def sentWhole (x : Txn) : Bool :=
  match x.chosen with
  | some r => decide (5 + r.data.length ≤ x.received.length)
  | none => false

/-- The transaction over, with the bits it sent. -/
def endTxn (x : Txn) (s : State) : State := s.setCtl { s.ctl with txn := none, sdo := sentBits x.stream x.clocks }

/-- The rise of CS_N (R157): the part of a byte is discarded. A POST whose request is not complete is malformed (R161); a
FETCH that sent its reply whole removes it from the queue when it is still there (R166); any other transaction has no effect
at its end (R159). -/
def riseOfCsn (s : State) : State :=
  match s.ctl.txn with
  | none => s
  | some x =>
    let s' := endTxn x s
    match x.kind with
    | some .post => if x.finding = .undecided then deliver .portError s' else s'
    | some .fetch =>
      if sentWhole x = true ∧ x.chosenHeld = true then s'.setCtl { s'.ctl with replies := s'.ctl.replies.tail } else s'
    | some .statusOnly | none => s'

/-- What an instant of a transaction does. -/
def wireEvent (ev : WireEvent) (s : State) : State :=
  match ev with
  | .fall => beginTxn s
  | .sckRise sdi => clockIn sdi s
  | .sckFall => shiftSdo s
  | .clocks sdi => sdi.foldl sckPeriod s
  | .rise => riseOfCsn s

/-- POST (R160): an instant of a transaction; which kind it is, the port reads from byte 1 (R159, assumption 36). -/
def execPost (t : Nat) (ev : WireEvent) (s : State) : Outcome := .next (wireEvent ev (tick t s))

/-- MALFORMED_POST (R161): likewise. -/
def execMalformedPost (t : Nat) (ev : WireEvent) (s : State) : Outcome := .next (wireEvent ev (tick t s))

/-- FETCH (R166): likewise. -/
def execFetch (t : Nat) (ev : WireEvent) (s : State) : Outcome := .next (wireEvent ev (tick t s))

/-- STATUS_ONLY (R159): likewise. -/
def execStatusOnly (t : Nat) (ev : WireEvent) (s : State) : Outcome := .next (wireEvent ev (tick t s))

/-! ### Serving a request (R164, R165) -/

/-- What the owner of a request makes of it: the state it leaves, and its reply's status and data. -/
structure Answer where
  st : State
  status : Status
  data : List Byte
  deriving DecidableEq, Repr

/-- A refusal: nothing has been done, and the data is the echo of the first up to 8 parameter bytes (R165). -/
def refuse (status : Status) (ps : List Byte) (s : State) : Answer := ⟨s, status, ps.take 8⟩

/-- The reply OK with its data. -/
def accept (data : List Byte) (s : State) : Answer := ⟨s, .ok, data⟩

/-- The end of a processing: the reply joins the reply queue, and the next request enters processing (R164). -/
def finish (code : Byte) (a : Answer) : State :=
  a.st.setCtl (promote { a.st.ctl with processing := none, replies := a.st.ctl.replies ++ [⟨code, a.status, a.data⟩] })

/-- The processing at time t of the request in processing, by the owner of a code. Another request in processing, or none,
leaves the state as it is (assumption 3). -/
def serve (code : Byte) (body : List Byte → State → Answer) (t : Nat) (s : State) : State :=
  match s.ctl.processing with
  | some r => if r.code = code then finish code (body r.params (tick t s)) else s
  | none => s

end Sys2Proof.Machine
end

