-- ==== Sys2Proof/Machine/CatalogueRequests.lean ====
section
/-! DEFINITION. The requests of the Mode Catalogue, CAT_STORE to CAT_LIST (section 2), and the acceptance of an edit by
the Change Stage, which every staged request ends in (R146, R148). -/

namespace Sys2Proof.Machine

/-- The last step of a staged request: STAGE_FULL when the list holds 16 edits; otherwise the edit is accepted, and applied
at once with the whole list in STANDBY and REST (R146, R148). -/
def stageEdit (e : Edit) (data : List Byte) (ps : List Byte) (s : State) : Answer :=
  if Config.stageCapacity ≤ s.stage.edits.length then refuse .stageFull ps s
  else ⟨settlePacer (acceptEdit e s), .staged, data⟩

/-! ### CAT_STORE and CAT_RETIRE -/

/-- CAT_STORE's body, in the order of R23. -/
def bodyCatStore (ps : List Byte) (s : State) : Answer :=
  let slot := field ps 0 1
  if ps.length = 0 then refuse .badLength ps s
  else if Config.catalogueSlots ≤ slot then refuse .badIndex ps s
  else
    match chainOf (ps.drop 1) with
    | .error e => refuse e ps s
    | .ok (content, skipped) =>
      if (recordAt s slot).locked then refuse .locked ps s
      else stageEdit (.catStore slot content) (be 1 skipped) ps s

/-- CAT_STORE, 20h (R23). -/
def execCatStore (t : Nat) (s : State) : Outcome := .next (serve 0x20#8 bodyCatStore t s)

/-- CAT_RETIRE's body, in the order of R24. -/
def bodyCatRetire (ps : List Byte) (s : State) : Answer :=
  let slot := field ps 0 1
  if ps.length ≠ 1 then refuse .badLength ps s
  else if Config.catalogueSlots ≤ slot then refuse .badIndex ps s
  else if (recordAt s slot).locked then refuse .locked ps s
  else stageEdit (.catRetire slot) [] ps s

/-- CAT_RETIRE, 21h (R24). -/
def execCatRetire (t : Nat) (s : State) : Outcome := .next (serve 0x21#8 bodyCatRetire t s)

/-! ### CAT_READ -/

/-- The header byte of CAT_READ, of a slot that holds a pacing or none (R181). -/
def recordHeader (r : ModeRecord) (redraw given : Nat) : Byte :=
  byte (r.state.code + 32 * redraw + 64 * given + 128 * boolCode r.locked)

/-- The plan block of a record that is FIT. -/
def fitBlock : Fit → List Byte
  | .fit p => planBlock p
  | .untested | .unfit _ => []

/-- CAT_READ's data (R39, R181). -/
def recordReport (r : ModeRecord) : List Byte :=
  match r.stored with
  | none => [recordHeader r 0 0]
  | some c =>
    [recordHeader r c.pacing.redraw.code (boolCode c.pacing.given)] ++ [byte (r.fit.code + 16 * r.fit.reasonCode)]
      ++ keyBytes c.key ++ presentBytes c.present ++ be 3 c.pacing.ceiling ++ be 1 c.label.length
      ++ c.label.map charOf ++ fitBlock r.fit

/-- CAT_READ's body (R39). -/
def bodyCatRead (ps : List Byte) (s : State) : Answer :=
  let slot := field ps 0 1
  if ps.length ≠ 1 then refuse .badLength ps s
  else if Config.catalogueSlots ≤ slot then refuse .badIndex ps s
  else accept (recordReport (recordAt s slot)) s

/-- CAT_READ, 22h (R39). -/
def execCatRead (t : Nat) (s : State) : Outcome := .next (serve 0x22#8 bodyCatRead t s)

/-! ### CAT_STATS -/

/-- CAT_STATS's data (R40, R181). -/
def statsReport (r : ModeRecord) : List Byte :=
  let x := r.stats
  be 1 r.state.code ++ be 4 x.activations ++ be 4 x.presented ++ be 4 x.skipped ++ be 4 x.overrate ++ be 4 x.collisions
    ++ be 4 x.predicted ++ be 4 x.forced ++ be 4 x.worstLag ++ be 4 x.underrun ++ be 4 x.overflow

/-- The ten counters of a slot set to 0 (R40). -/
def clearStats (slot : Nat) (s : State) : State := setRecord slot { recordAt s slot with stats := .zero } s

/-- CAT_STATS's body (R40). R40 lists its refusals without an order; where two hold, the one listed first is given, which is
the model's choice (assumption 40). -/
def bodyCatStats (ps : List Byte) (s : State) : Answer :=
  let slot := field ps 0 1
  let clear := field ps 1 1
  if ps.length ≠ 2 then refuse .badLength ps s
  else if Config.catalogueSlots ≤ slot then refuse .badIndex ps s
  else if 1 < clear then refuse .badValue ps s
  else if (recordAt s slot).state = .free then refuse .wrongState ps s
  else accept (statsReport (recordAt s slot)) (if clear = 1 then clearStats slot s else s)

/-- CAT_STATS, 23h (R40). -/
def execCatStats (t : Nat) (s : State) : Outcome := .next (serve 0x23#8 bodyCatStats t s)

/-! ### CAT_FIND -/

/-- The first candidate that fits, with the number passed over, its specificity and its plan (R41). -/
def findFit (o : Observation) (s : State) : Nat → List Nat → Option (Nat × Nat × Plan)
  | _, [] => none
  | passed, i :: rest =>
    match planSlot i o s with
    | .fit plan => some (i, passed, plan)
    | .unfit _ => findFit o s (passed + 1) rest

/-- CAT_FIND's reply for an observation (R41). -/
def searchReply (o : Observation) (ps : List Byte) (s : State) : Answer :=
  match findFit o s 0 (candidates s.cat o) with
  | some (slot, passed, plan) =>
    accept (be 1 slot ++ be 1 ((recordSpecificity (recordAt s slot)).getD 0) ++ be 1 passed ++ be 1 plan.profile
      ++ planBlock plan) s
  | none => refuse .noMatch ps s

/-- The supplied form's values, when they lie in their ranges (R41, R180). Their out-of-range flag is computed as the
monitor computes it. -/
def suppliedObservation (ps : List Byte) : Option Observation :=
  let width := field ps 0 2
  let height := field ps 2 2
  let ls := field ps 6 4
  let slead := field ps 10 4
  match formatOf (field ps 4 1), depthOf (field ps 5 1), vrrOf (field ps 14 1) with
  | some (some format), some (some depth), some (some vrr) =>
    if width ≤ 8191 ∧ height ≤ 4095 ∧ ls ≤ 1048575 ∧ slead ≤ 10000000 then
      some { width, height, format, depth, ls, slead, vrr, game := false, outOfRange := outOfRange width height ls,
             sinceSettle := 0 }
    else none
  | _, _, _ => none

/-- CAT_FIND's body (R41). -/
def bodyCatFind (ps : List Byte) (s : State) : Answer :=
  if ps.length = 0 then
    if s.mon.state = .settled then searchReply s.mon.obs ps s else refuse .wrongState ps s
  else if ps.length = 15 then
    match suppliedObservation ps with
    | some o => searchReply o ps s
    | none => refuse .badValue ps s
  else refuse .badLength ps s

/-- CAT_FIND, 24h (R41). -/
def execCatFind (t : Nat) (s : State) : Outcome := .next (serve 0x24#8 bodyCatFind t s)

/-! ### CAT_LOCK and CAT_LIST -/

/-- CAT_LOCK's body (R27). -/
def bodyCatLock (ps : List Byte) (s : State) : Answer :=
  let slot := field ps 0 1
  if ps.length ≠ 1 then refuse .badLength ps s
  else if Config.catalogueSlots ≤ slot then refuse .badIndex ps s
  else accept (be 1 (recordAt s slot).state.code) (setRecord slot { recordAt s slot with locked := true } s)

/-- CAT_LOCK, 25h (R27). -/
def execCatLock (t : Nat) (s : State) : Outcome := .next (serve 0x25#8 bodyCatLock t s)

/-- One entry of CAT_LIST (R181). -/
def listByte (r : ModeRecord) : Byte :=
  byte (r.state.code + 4 * r.fit.code + 16 * r.fit.reasonCode + 128 * boolCode r.locked)

/-- CAT_LIST's body (R42). -/
def bodyCatList (ps : List Byte) (s : State) : Answer :=
  if ps.length ≠ 0 then refuse .badLength ps s
  else accept ((List.range Config.catalogueSlots).map fun i => listByte (recordAt s i)) s

/-- CAT_LIST, 26h (R42). -/
def execCatList (t : Nat) (s : State) : Outcome := .next (serve 0x26#8 bodyCatList t s)

end Sys2Proof.Machine
end

