-- ==== Sys2Proof/Machine/Launch.lean ====
section
/-! DEFINITION. The commands the pacer's own time brings: the launches and the two timers (section 4). -/

namespace Sys2Proof.Machine

/-- LIVE_LAUNCH (R71): the pending live launch is made at its time. -/
def execLiveLaunch (s : State) : Outcome :=
  match s.pacer.pending with
  | some x => .next (settlePacer (launchPending x (tick x.time s)))
  | none => .next s

/-- The first entry of the schedule when it has a reason. -/
def firstEntry (reason : LaunchReason) (s : State) : Option SchedEntry :=
  s.pacer.schedule.head?.filter fun x => x.reason == reason

/-- PREDICTED_REDRAW (R63, R73). -/
def execPredictedRedraw (s : State) : Outcome :=
  match firstEntry .predicted s with
  | some x => .next (settlePacer (takeEntry x (tick x.time s)))
  | none => .next s

/-- The end time of the switch in progress, in FREE_RUN and HOLD: the periodic launch scheduled there may be taken before
the switch end (R66, R119; assumptions 17, 19). -/
def launchAtEnd (s : State) : Option Nat :=
  match s.panel.phase, s.pacer.state with
  | .switching e, .freeRun | .switching e, .hold => some e
  | _, _ => none

/-- The periodic launch of a switch end taken before it: the switch ends at that instant, the launch scheduled there is made,
and the switch end's application point follows (R119, R153). -/
def launchFirst (endAt : Nat) (s : State) : State :=
  let s' := pacerSwitchEnd endAt (endSwitch endAt s)
  applicationPoint (takeEntry { time := endAt, reason := .periodic, kind := s.pacer.state.periodicKind } s')

/-- PERIODIC_LAUNCH (R63, R66). -/
def execPeriodicLaunch (s : State) : Outcome :=
  match firstEntry .periodic s with
  | some x => .next (settlePacer (takeEntry x (tick x.time s)))
  | none =>
    match launchAtEnd s with
    | some e => .next (settlePacer (launchFirst e (tick e s)))
    | none => .next s

/-- FORCED_DEADLINE (R64): a forced launch at exactly the armed deadline. -/
def execForcedDeadline (s : State) : Outcome :=
  match s.pacer.deadline with
  | some d => .next (settlePacer (takeForced d (tick d s)))
  | none => .next s

/-- HOLD_TIMER_EXPIRY (R79). -/
def execHoldTimerExpiry (s : State) : Outcome :=
  match s.pacer.state, s.pacer.holdTimer with
  | .hold, .running e => .next (settlePacer (holdToFreeRun (tick e s)))
  | _, _ => .next s

/-- REST_TIMER_EXPIRY (R80, R81). -/
def execRestTimerExpiry (s : State) : Outcome :=
  match s.pacer.state, s.pacer.restTimer with
  | .freeRun, .running e => .next (settlePacer (enterRest (tick e s)))
  | _, _ => .next s

end Sys2Proof.Machine
end

