-- ==== Sys2Proof/Machine/PacerRequests.lean ====
section
/-! DEFINITION. The pacing requests, START, STANDBY, WAKE, SET_TIMERS and PACING_READ (4.7), and OBSERVE (1.9). -/

namespace Sys2Proof.Machine

/-! ### START, STANDBY and WAKE -/

/-- START's effect (R83). -/
def startOn (profile : Nat) (s : State) : State :=
  let s1 := if s.panel.current = some profile then s else requestSwitch profile s
  settlePacer (leaveRest s1)

/-- START's body (R83). -/
def bodyStart (ps : List Byte) (s : State) : Answer :=
  let profile := field ps 0 1
  if ps.length ≠ 1 then refuse .badLength ps s
  else if Config.profileCount ≤ profile then refuse .badIndex ps s
  else if s.pacer.state ≠ .standby then refuse .wrongState ps s
  else if (profileAt s profile).valid = false then refuse .badValue ps s
  else accept [] (startOn profile s)

/-- START, 12h (R83). -/
def execStart (t : Nat) (s : State) : Outcome := .next (serve 0x12#8 bodyStart t s)

/-- STANDBY's effect (R82); from REST the pacer leaves REST, which loads the rest timer (R80). -/
def goStandby (s : State) : State :=
  match s.pacer.state with
  | .standby => s
  | .live => settlePacer (enterStandby (withdrawActive s))
  | .freeRun | .hold => settlePacer (enterStandby s)
  | .rest => settlePacer (enterStandby (loadRest s))

/-- STANDBY's body: its data gives the pacer state found (R82). -/
def bodyStandby (ps : List Byte) (s : State) : Answer :=
  if ps.length ≠ 0 then refuse .badLength ps s else accept (be 1 s.pacer.state.code) (goStandby s)

/-- STANDBY, 13h (R82). -/
def execStandby (t : Nat) (s : State) : Outcome := .next (serve 0x13#8 bodyStandby t s)

/-- The pacer leaves REST (R81): FREE_RUN with the rest timer loaded and a periodic launch scheduled, and a lookup when
the monitor is SETTLED. -/
def wakeUp (s : State) : State := settlePacer (leaveRest s)

/-- WAKE's body (R84). -/
def bodyWake (ps : List Byte) (s : State) : Answer :=
  if ps.length ≠ 0 then refuse .badLength ps s
  else if s.pacer.state ≠ .rest then refuse .wrongState ps s
  else if (currentProfile s).valid = false then refuse .wrongState ps s
  else accept [] (wakeUp s)

/-- WAKE, 14h (R84). -/
def execWake (t : Nat) (s : State) : Outcome := .next (serve 0x14#8 bodyWake t s)

/-! ### SET_TIMERS -/

/-- SET_TIMERS's effect: the settings written, and the rest timer loaded (R85). -/
def setTimers (hold rest : Nat) (wake : Bool) (s : State) : State :=
  settlePacer (loadRest (s.setPacer { s.pacer with holdTime := hold, restTime := rest, wakeOnSource := wake }))

/-- SET_TIMERS's body (R85). -/
def bodySetTimers (ps : List Byte) (s : State) : Answer :=
  if ps.length ≠ 4 then refuse .badLength ps s
  else if 1 < field ps 3 1 then refuse .badValue ps s
  else
    accept (be 1 (field ps 0 1) ++ be 2 (field ps 1 2) ++ be 1 (field ps 3 1))
      (setTimers (field ps 0 1) (field ps 1 2) (field ps 3 1 == 1) s)

/-- SET_TIMERS, 42h (R85). -/
def execSetTimers (t : Nat) (s : State) : Outcome := .next (serve 0x42#8 bodySetTimers t s)

/-! ### PACING_READ -/

/-- What remains of a timer in tenths of a second, rounded up (R86). -/
def tenthsLeft (timer : Timer) (now : Nat) : Nat := ceilDiv (timer.left now) Config.tenthTicks

/-- The kind and reason of the last launch, packed; 0 for none (R181). -/
def lastLaunchByte : Option LastLaunch → Byte
  | some l => byte (16 * l.reason.code + l.kind.code)
  | none => 0x00#8

/-- The validity byte of PACING_READ (R181). -/
def pacingValidity (s : State) : Byte :=
  byte (boolCode s.pacer.lastInterval.isSome + 2 * boolCode s.pacer.lastLag.isSome + 4 * boolCode s.pacer.pending.isSome
    + 8 * boolCode s.pacer.deadline.isSome + 16 * boolCode s.plan.isSome)

/-- The plan fields of PACING_READ, 0 with no plan in force (R181). -/
def planReport : Option Plan → List Byte
  | some p => be 1 p.slot ++ be 4 p.w ++ beSigned p.de ++ be 4 p.tmin ++ be 3 p.limit ++ be 1 (boolCode p.predict)
  | none => List.replicate 17 0x00#8

/-- PACING_READ's 53 bytes (R86, R181). -/
def pacingReport (s : State) : List Byte :=
  let p := s.pacer
  be 1 p.state.code ++ be 1 p.tracking.code ++ be 1 p.holdTime ++ be 2 p.restTime ++ be 1 (boolCode p.wakeOnSource)
    ++ be 2 (tenthsLeft p.holdTimer s.now) ++ be 2 (tenthsLeft p.restTimer s.now) ++ [lastLaunchByte p.last]
    ++ be 4 ((p.last.map fun l => s.now - l.time).getD 0) ++ [pacingValidity s] ++ be 4 (p.lastInterval.getD 0)
    ++ be 3 (p.lastLag.getD 0) ++ be 3 ((p.pending.map (·.lag)).getD 0)
    ++ be 1 (((p.pending.bind (·.cls)).map DeferClass.code).getD 0) ++ be 1 p.schedule.length
    ++ be 4 ((p.schedule.head?.map fun x => x.time - s.now).getD 0) ++ be 4 ((p.deadline.map fun d => d - s.now).getD 0)
    ++ planReport s.plan

/-- PACING_READ's body (R86). -/
def bodyPacingRead (ps : List Byte) (s : State) : Answer :=
  if ps.length ≠ 0 then refuse .badLength ps s else accept (pacingReport s) s

/-- PACING_READ, 51h (R86). -/
def execPacingRead (t : Nat) (s : State) : Outcome := .next (serve 0x51#8 bodyPacingRead t s)

/-! ### OBSERVE -/

/-- OBSERVE's data (R17, R181). -/
def observeReport (m : Monitor) : List Byte :=
  let o := m.obs
  be 1 m.state.code ++ be 2 o.width ++ be 2 o.height ++ be 1 (formatCode o.format) ++ be 1 (depthCode o.depth) ++ be 4 o.ls
    ++ be 4 o.slead ++ be 1 (vrrCode o.vrr) ++ be 1 (boolCode o.game) ++ be 1 (boolCode o.outOfRange)
    ++ be 2 o.sinceSettle ++ be 1 (boolCode m.lossLatch) ++ be 1 m.periods.length ++ m.periods.flatMap (be 4)
    ++ be 4 ((estimate m.periods).getD 0)

/-- OBSERVE's body: the loss latch is cleared once the reply holds it (R17). -/
def bodyObserve (ps : List Byte) (s : State) : Answer :=
  if ps.length ≠ 0 then refuse .badLength ps s
  else accept (observeReport s.mon) (s.setMon { s.mon with lossLatch := false })

/-- OBSERVE, 50h (R17). -/
def execObserve (t : Nat) (s : State) : Outcome := .next (serve 0x50#8 bodyObserve t s)

end Sys2Proof.Machine
end

