-- ==== Sys2Proof/Machine/PanelRequests.lean ====
section
/-! DEFINITION. The requests of the Panel Port, PROFILE_SET, PROFILE_READ and SET_FILL (section 6), and of the Change
Stage, GROUP_OPEN and GROUP_CLOSE (section 8). -/

namespace Sys2Proof.Machine

/-! ### PROFILE_SET -/

/-- The fields of the write form as given; `none` is one outside its range (R106, R107, R180). -/
def profileOf (ps : List Byte) : Option Profile :=
  let p : Profile :=
    { valid := true, wp := field ps 1 2, hp := field ps 3 2, lpMin := field ps 5 3, lpMax := field ps 8 3,
      nlead := field ps 11 1, nfpMin := field ps 12 1, tmax := field ps 13 3, fr := field ps 16 3,
      switchTime := field ps 19 3, redraw := field ps 22 1 == 1 }
  if 640 ≤ p.wp ∧ p.wp ≤ 3840 ∧ p.wp % 4 = 0 ∧ 360 ≤ p.hp ∧ p.hp ≤ 2160 ∧ 1600 ≤ p.lpMin ∧ p.lpMin ≤ p.lpMax
      ∧ p.lpMax ≤ 320000 ∧ 4 ≤ p.nlead ∧ 1 ≤ p.nfpMin ∧ 200000 ≤ p.tmax ∧ p.tmax ≤ 10000000
      ∧ p.switchTime ≤ 10000000 ∧ field ps 22 1 ≤ 1 then
    some p
  else none

/-- The two relations of a VALID profile (R106). -/
def profileRelations (p : Profile) : Bool :=
  decide (tminAt p p.lpMax ≤ p.tmax ∧ tminAt p p.lpMin ≤ p.fr ∧ p.fr ≤ p.tmax)

/-- A profile's code: INVALID 0, VALID 1 (assumption 9). -/
def validCode (valid : Bool) : Nat := boolCode valid

/-- One profile replaced. -/
def setProfile (index : Nat) (p : Profile) (s : State) : State :=
  s.setPanel { s.panel with profiles := s.panel.profiles.set index p }

/-- The profile may not be written: it is the current one, and the pacer is in neither STANDBY nor REST (R107). -/
def profileInUse (index : Nat) (s : State) : Bool :=
  decide (s.panel.current = some index ∧ s.pacer.state ≠ .standby ∧ s.pacer.state ≠ .rest)

/-- PROFILE_SET's body, in the order of R107, and its effect (R108). -/
def bodyProfileSet (ps : List Byte) (s : State) : Answer :=
  let index := field ps 0 1
  if ps.length ≠ 1 ∧ ps.length ≠ 23 then refuse .badLength ps s
  else if Config.profileCount ≤ index then refuse .badIndex ps s
  else if profileInUse index s = true then refuse .wrongState ps s
  else if ps.length = 1 then accept (be 1 (validCode false)) (setProfile index .invalid s)
  else
    match profileOf ps with
    | none => refuse .badValue ps s
    | some p =>
      if profileRelations p then accept (be 1 (validCode true)) (setProfile index p s) else refuse .badValue ps s

/-- PROFILE_SET, 40h (R107). -/
def execProfileSet (t : Nat) (s : State) : Outcome := .next (serve 0x40#8 bodyProfileSet t s)

/-! ### PROFILE_READ -/

/-- The 22 field bytes of the write form (R181). -/
def profileBytes (p : Profile) : List Byte :=
  be 2 p.wp ++ be 2 p.hp ++ be 3 p.lpMin ++ be 3 p.lpMax ++ be 1 p.nlead ++ be 1 p.nfpMin ++ be 3 p.tmax ++ be 3 p.fr
    ++ be 3 p.switchTime ++ be 1 (boolCode p.redraw)

/-- The time left until the switch end, 0 when no switch is in progress (R109). -/
def switchLeft (s : State) : Nat :=
  match s.panel.phase with
  | .switching e => e - s.now
  | .noSwitch | .pending _ => 0

/-- PROFILE_READ's 45 bytes (R109, R181). -/
def profileReport (index : Nat) (s : State) : List Byte :=
  let p := profileAt s index
  be 1 (validCode p.valid) ++ profileBytes p ++ be 4 (tminAt p p.lpMin) ++ be 4 (tminAt p p.lpMax)
    ++ be 1 (boolCode (decide (s.panel.current = some index))) ++ be 1 (orNone s.panel.current)
    ++ be 1 s.panel.state.code ++ be 1 s.panel.phase.code ++ be 4 (switchLeft s) ++ colourBytes s.panel.fill

/-- PROFILE_READ's body (R109). -/
def bodyProfileRead (ps : List Byte) (s : State) : Answer :=
  let index := field ps 0 1
  if ps.length ≠ 1 then refuse .badLength ps s
  else if Config.profileCount ≤ index then refuse .badIndex ps s
  else accept (profileReport index s) s

/-- PROFILE_READ, 41h (R109). -/
def execProfileRead (t : Nat) (s : State) : Outcome := .next (serve 0x41#8 bodyProfileRead t s)

/-! ### SET_FILL -/

/-- SET_FILL's body (R121). -/
def bodySetFill (ps : List Byte) (s : State) : Answer :=
  if ps.length ≠ 6 then refuse .badLength ps s else stageEdit (.setFill (colourField ps 0)) [] ps s

/-- SET_FILL, 43h (R121). -/
def execSetFill (t : Nat) (s : State) : Outcome := .next (serve 0x43#8 bodySetFill t s)

/-! ### GROUP_OPEN and GROUP_CLOSE -/

/-- GROUP_OPEN's body (R154). -/
def bodyGroupOpen (ps : List Byte) (s : State) : Answer :=
  if ps.length ≠ 0 then refuse .badLength ps s
  else if s.stage.groupOpen = true then refuse .wrongState ps s
  else accept (be 1 s.stage.edits.length) (s.setStage { s.stage with groupOpen := true })

/-- GROUP_OPEN, 18h (R154). -/
def execGroupOpen (t : Nat) (s : State) : Outcome := .next (serve 0x18#8 bodyGroupOpen t s)

/-- GROUP_CLOSE's effect, with the number of edits it applied (R155). -/
def closeGroup (s : State) : State × Nat :=
  let s' := s.setStage { s.stage with groupOpen := false }
  match s.pacer.state with
  | .standby | .rest => (settlePacer (applicationPoint s'), s.stage.edits.length)
  | .freeRun | .live | .hold => (s', 0)

/-- GROUP_CLOSE's body (R155). -/
def bodyGroupClose (ps : List Byte) (s : State) : Answer :=
  if ps.length ≠ 0 then refuse .badLength ps s
  else if s.stage.groupOpen = false then refuse .wrongState ps s
  else accept (be 1 s.stage.edits.length ++ be 1 (closeGroup s).2) (closeGroup s).1

/-- GROUP_CLOSE, 19h (R155). -/
def execGroupClose (t : Nat) (s : State) : Outcome := .next (serve 0x19#8 bodyGroupClose t s)

end Sys2Proof.Machine
end

