-- ==== Sys2Proof/Machine/PortRequests.lean ====
section
/-! DEFINITION. The requests of the Control Port and of the Event Unit: UNKNOWN_CODE, ECHO, IDENTIFY, RESET_PART,
EVENT_MASK and EVENT_READ (sections 9 and 10). -/

namespace Sys2Proof.Machine

/-! ### UNKNOWN_CODE -/

/-- The codes of the summary table (9.7). -/
def knownCode (c : Byte) : Bool :=
  let n := c.toNat
  decide ((0x10 ≤ n ∧ n ≤ 0x19) ∨ (0x20 ≤ n ∧ n ≤ 0x26) ∨ (0x30 ≤ n ∧ n ≤ 0x36) ∨ (0x40 ≤ n ∧ n ≤ 0x43) ∨ n = 0x50
    ∨ n = 0x51)

/-- The processing of a request whose code is not in the table (R164). -/
def serveUnknown (t : Nat) (s : State) : State :=
  match s.ctl.processing with
  | some r => if knownCode r.code then s else finish r.code (refuse .badCode r.params (tick t s))
  | none => s

/-- UNKNOWN_CODE (R164). -/
def execUnknownCode (t : Nat) (s : State) : Outcome := .next (serveUnknown t s)

/-! ### ECHO and IDENTIFY -/

/-- ECHO's body (R167). -/
def bodyEcho (ps : List Byte) (s : State) : Answer := accept ps s

/-- ECHO, 10h (R167). -/
def execEcho (t : Nat) (s : State) : Outcome := .next (serve 0x10#8 bodyEcho t s)

/-- IDENTIFY's data (R168, R181). -/
def identity (partResets : Nat) : List Byte :=
  [0x47#8, 0x58#8, 0x32#8, 0x38#8] ++ be 1 1 ++ be 1 Config.catalogueSlots ++ be 1 Config.windowRecords
    ++ be 1 Config.imagePages ++ be 1 Config.lineSlots ++ be 1 Config.portCapacity ++ be 1 Config.stageCapacity
    ++ be 1 Config.maxLength ++ be 2 partResets

/-- IDENTIFY's body (R168). -/
def bodyIdentify (ps : List Byte) (s : State) : Answer :=
  if ps.length ≠ 0 then refuse .badLength ps s else accept (identity s.ctl.partResets) s

/-- IDENTIFY, 11h (R168). -/
def execIdentify (t : Nat) (s : State) : Outcome := .next (serve 0x11#8 bodyIdentify t s)

/-! ### RESET_PART -/

/-- A record at a part reset (R44). -/
def ModeRecord.partReset (r : ModeRecord) : ModeRecord :=
  { r with
    state := if r.state = .active then .ready else r.state
    fit := .untested
    stats := .zero }

/-- The pacer at a part reset (R87): the rest timer is paused, and loaded first when the pacer leaves REST (R80). -/
def Pacer.partReset (now : Nat) (p : Pacer) : Pacer :=
  { p with
    state := .standby
    lastLive := none
    lastInterval := none
    lastLag := none
    pending := none
    schedule := []
    deadline := none
    holdTimer := .stopped
    restTimer := if p.state = .rest then p.loadedRest else p.restTimer.set false now }

/-- A window at a part reset, but for its text (R145). -/
def Window.partReset (w : Window) : Window :=
  { w with state := if w.state = .shown then .hidden else w.state, dropped := 0 }

/-- The Overlay Merge Unit at a part reset: the texts are latched from the values that stand after it (R145). -/
def resetOverlay (s : State) : State :=
  s.setOverlay { s.overlay with windows := s.overlay.windows.map fun w => (w.partReset).latch s, writePtr := 0 }

/-- The port's queues at a part reset (R169, R166): a reply chosen by a FETCH in progress is no longer in the queue. -/
def ControlPort.partReset (c : ControlPort) : ControlPort :=
  { c with
    requests := []
    replies := []
    txn := c.txn.map fun x => { x with chosenHeld := false }
    partResets := satAdd 65535 c.partResets 1 }

/-- A part reset of every block (R18, R44, R45, R87, R105, R122, R145, R156, R169, R176). -/
def partReset (s : State) : State :=
  let s1 := (((s.setMon .reset).setCat (s.cat.map ModeRecord.partReset)).setPlan none).setPacer (s.pacer.partReset s.now)
  let s2 := portStop (s1.setStore .reset)
  let s3 := clearFlags ((resetOverlay s2).setStage .reset)
  settlePacer (s3.setCtl s3.ctl.partReset)

/-- RESET_PART's body: its data gives the requests and the replies discarded (R169). -/
def bodyResetPart (ps : List Byte) (s : State) : Answer :=
  if ps.length ≠ 0 then refuse .badLength ps s
  else accept (be 1 s.ctl.requests.length ++ be 1 s.ctl.replies.length) (partReset s)

/-- RESET_PART, 15h (R169). -/
def execResetPart (t : Nat) (s : State) : Outcome := .next (serve 0x15#8 bodyResetPart t s)

/-! ### EVENT_MASK and EVENT_READ -/

/-- EVENT_MASK's body (R175). -/
def bodyEventMask (ps : List Byte) (s : State) : Answer :=
  let enable := BitVec.ofNat 16 (field ps 0 2)
  let disable := BitVec.ofNat 16 (field ps 2 2)
  if ps.length ≠ 4 then refuse .badLength ps s
  else if (enable ||| disable) &&& unusedBits ≠ 0#16 then refuse .badValue ps s
  else if enable &&& disable ≠ 0#16 then refuse .badValue ps s
  else
    let mask := (s.ev.mask ||| enable) &&& ~~~disable
    accept (be 2 mask.toNat) (s.setEv { s.ev with mask := mask })

/-- EVENT_MASK, 16h (R175). -/
def execEventMask (t : Nat) (s : State) : Outcome := .next (serve 0x16#8 bodyEventMask t s)

/-- EVENT_READ's body (R174). -/
def bodyEventRead (ps : List Byte) (s : State) : Answer :=
  if ps.length ≠ 0 then refuse .badLength ps s
  else if s.ev.flags &&& ~~~replyBit = 0#16 then refuse .empty ps s
  else accept (be 2 (flagWord s).toNat ++ be 2 s.ev.mask.toNat) (clearFlags s)

/-- EVENT_READ, 17h (R174). -/
def execEventRead (t : Nat) (s : State) : Outcome := .next (serve 0x17#8 bodyEventRead t s)

end Sys2Proof.Machine
end

