-- ==== Sys2Proof/Machine/Scan.lean ====
section
/-! DEFINITION. The commands the panel frame's own time brings: PANEL_LINE_START, SCAN_END, TRAIL_END and SWITCH_END
(sections 5, 6 and 7). -/

namespace Sys2Proof.Machine

/-- The base line of panel line y: from the line store in a LIVE scan with an entry, of the record fill colour in one
without, and of the part fill colour in a GENERATED scan (R95, R113, R114). An underrun line is reported and signalled
(R97). A REDRAW scan forms none (R115). -/
def baseLine (f : PanelFrame) (s : State) : State × Option (List Colour) :=
  match f.kind with
  | .redraw => (s, none)
  | .generated => (s, some (plainLine f.wp s.panel.fill))
  | .live =>
    match scanningEntry s.store with
    | none => (s, some (plainLine f.wp f.fill))
    | some e =>
      let (l, base, underrun) := storePanelLine e f.wp f.nextLine s.store
      let s' := s.setStore l
      (if underrun then deliver .underrun (report Stats.addUnderrun s') else s', some base)

/-- The port in SCAN, sending one line, with the next line to come after it (R110, R113, R115). -/
def sendLine (f : PanelFrame) (line : Option (List Colour)) (s : State) : State :=
  s.setPanel { s.panel with
    state := .scan
    frame := some { f with nextLine := f.nextLine + 1 }
    out := match line with
      | some px => { s.panel.out with dataEnable := true, line := px }
      | none => s.panel.out.low }

/-- The start of the next active panel line: the base line, the windows merged into it and those left out of it
(R95, R131, R132). -/
def panelLine (f : PanelFrame) (s : State) : State :=
  let (s1, base) := baseLine f s
  match base with
  | none => sendLine f none s1
  | some px =>
    sendLine f (some (mergeLine s1 f.wp f.nextLine px)) (dropLines (droppedWindows s1 f.wp f.nextLine) s1)

/-- The frame whose lines are being sent, while the port is in LEAD or SCAN. -/
def scanningFrame (s : State) : Option PanelFrame :=
  match s.panel.state with
  | .lead | .scan => s.panel.frame
  | .idle | .blank | .trail | .switching => none

/-- PANEL_LINE_START (R95, R112 to R115), at the start of the next active line of the frame in progress. -/
def execPanelLineStart (s : State) : Outcome :=
  match scanningFrame s with
  | some f =>
    if f.nextLine < f.hp then .next (panelLine f (tick (f.activeStart f.nextLine) s)) else .next s
  | none => .next s

/-- SCAN_END (R116), at the scan end of the frame in progress. -/
def execScanEnd (s : State) : Outcome :=
  match scanningFrame s with
  | some f => .next (settlePacer (scanEndOf f (tick f.scanEnd s)))
  | none => .next s

/-- TRAIL_END (R116), at the trail end of the frame in progress. -/
def execTrailEnd (s : State) : Outcome :=
  match s.panel.state, s.panel.frame with
  | .trail, some f => .next (settlePacer (endTrail f.trailEnd (tick f.trailEnd s)))
  | _, _ => .next s

/-- SWITCH_END (R119), at the recorded end time. -/
def execSwitchEnd (stageFirst : Bool) (s : State) : Outcome :=
  match s.panel.phase with
  | .switching e => .next (settlePacer (switchEndOf e stageFirst (tick e s)))
  | .noSwitch | .pending _ => .next s

end Sys2Proof.Machine
end

