-- ==== Sys2Proof/Machine/Source.lean ====
section
/-! DEFINITION. The commands of the pixel input and of the frame-start timer: SOURCE_FRAME_START, LINE_START,
ACTIVE_LINE_START, PIXEL_TRANSFER, LINE_COMPLETE, SIGNAL_OK_FALL and FRAME_START_TIMER_EXPIRY. -/

namespace Sys2Proof.Machine

/-- SOURCE_FRAME_START (R6, R13). -/
def execSourceFrameStart (t : Nat) (signalOk : Bool) (format : Format) (depth : Depth) (vrr game : Bool) (s : State) :
    Outcome :=
  .next (settlePacer (frameStart signalOk format depth vrr game (tick t s)))

/-- LINE_START (R2). -/
def execLineStart (t : Nat) (s : State) : Outcome := .next (settlePacer (lineStart (tick t s)))

/-- ACTIVE_LINE_START (R3, R11, R91). -/
def execActiveLineStart (t : Nat) (storeFirst : Bool) (s : State) : Outcome :=
  .next (settlePacer (activeLineStart storeFirst (tick t s)))

/-- The pixels of a transfer: those of the lanes whose own enable is high, in lane order (R2, R182). -/
def lanePixels (l0 l1 l2 l3 : Option RawPixel) : List RawPixel := [l0, l1, l2, l3].filterMap id

/-- PIXEL_TRANSFER (R2, R11, R92). -/
def execPixelTransfer (t : Nat) (l0 l1 l2 l3 : Option RawPixel) (s : State) : Outcome :=
  .next (settlePacer (pixelTransfer (lanePixels l0 l1 l2 l3) (tick t s)))

/-- LINE_COMPLETE (R93). -/
def execLineComplete (t : Nat) (s : State) : Outcome := .next (settlePacer (lineComplete (tick t s)))

/-- A loss for a cause that reaches the pixel input, which is ignored in STARTING (R2, R12). -/
def lossFrom (s : State) : State := if s.ctl.phase = .ready then declareLoss s else s

/-- SIGNAL_OK_FALL (R12). -/
def execSignalOkFall (t : Nat) (s : State) : Outcome := .next (settlePacer (lossFrom (tick t s)))

/-- FRAME_START_TIMER_EXPIRY (R12), at the running timer's expiry. -/
def execFrameStartTimerExpiry (s : State) : Outcome :=
  match s.mon.timer with
  | some e => .next (settlePacer (declareLoss (tick e s)))
  | none => .next s

end Sys2Proof.Machine
end

