-- ==== Sys2Proof/Machine/WindowRequests.lean ====
section
/-! DEFINITION. The requests of the Overlay Merge Unit: WIN_DEFINE to IMG_READ (section 7). -/

namespace Sys2Proof.Machine

/-! ### WIN_DEFINE (R125) -/

/-- A window's z, alpha and scale, clamped rather than refused (R125). -/
def clampZ (v : Nat) : Nat := min v 15
def clampAlpha (v : Nat) : Nat := min v 16
def clampScale (v : Nat) : Nat := max 1 (min v 4)

/-- A refresh interval; 0 means 256 (R125). -/
def refreshOf (v : Nat) : Nat := if v = 0 then 256 else v

/-- The length of the kind part; `selectors` is the selector count (R125). `none`: no such kind. -/
def kindLength (kind selectors : Nat) : Option Nat :=
  match kind with
  | 0 => some 0
  | 1 => some 5
  | 2 => some (3 + selectors)
  | _ => none

/-- The selectors named by the codes, when each code names one. -/
def selectorsOf : List Byte → Option (List Selector)
  | [] => some []
  | b :: rest =>
    match selectorOf b.toNat, selectorsOf rest with
    | some x, some xs => some (x :: xs)
    | _, _ => none

/-- An image lies wholly within image memory (R125, R135). -/
def imageFits (page width height : Nat) : Bool :=
  decide (page * Config.pageBytes + ceilDiv width 2 * height ≤ Config.imageBytes)

/-- The kind part's fields, when they lie in their ranges (R125). -/
def kindOf (ps : List Byte) : Option WindowKind :=
  match field ps 1 1 with
  | 0 => some .solid
  | 1 =>
    let page := field ps 15 1
    let width := field ps 16 2
    let height := field ps 18 2
    if page < Config.imagePages ∧ 1 ≤ width ∧ width ≤ 3840 ∧ 1 ≤ height ∧ height ≤ 2160
        ∧ imageFits page width height = true then
      some (.image page width height)
    else none
  | 2 =>
    let base := field ps 15 1
    match selectorsOf ((ps.drop 18).take (field ps 17 1)) with
    | some selectors => if base ≤ 126 then some (.figures base (refreshOf (field ps 16 1)) selectors) else none
    | none => none
  | _ => none

/-- A binding: a catalogue slot, or FFh for NONE (R125, R178). -/
def bindingOf (v : Nat) : Option (Option Nat) :=
  if v = 255 then some none else if v < Config.catalogueSlots then some (some v) else none

/-- The definition a WIN_DEFINE gives, when step 7's checks pass, after clamping; `start` is where the palette begins
(R125, R180). -/
def definitionOf (ps : List Byte) (start : Nat) : Option WindowDef :=
  let x := field ps 2 2
  let y := field ps 4 2
  let w := field ps 6 2
  let h := field ps 8 2
  match kindOf ps, bindingOf (field ps 13 1) with
  | some kind, some binding =>
    if x ≤ 4095 ∧ y ≤ 4095 ∧ 1 ≤ w ∧ w ≤ 3840 ∧ 1 ≤ h ∧ h ≤ 2160 then
      some { kind, x, y, w, h, z := clampZ (field ps 10 1), alpha := clampAlpha (field ps 11 1),
             scale := clampScale (field ps 12 1), binding,
             palette := (List.range (field ps 14 1)).map fun i => paletteField ps (start + 4 * i) }
    else none
  | _, _ => none

/-- WIN_DEFINE's body, in the order of R125. -/
def bodyWinDefine (ps : List Byte) (s : State) : Answer :=
  let win := field ps 0 1
  let kind := field ps 1 1
  let count := field ps 14 1
  let selectors := if kind = 2 then field ps 17 1 else 0
  if ps.length < 15 then refuse .badLength ps s
  else if Config.windowRecords ≤ win then refuse .badIndex ps s
  else
    match kindLength kind selectors with
    | none => refuse .badValue ps s
    | some kindBytes =>
      if kind = 2 ∧ ps.length < 18 then refuse .badLength ps s
      else if count = 0 ∨ 15 < count ∨ 4 < selectors then refuse .badValue ps s
      else if ps.length ≠ 15 + kindBytes + 4 * count then refuse .badLength ps s
      else
        match definitionOf ps (15 + kindBytes) with
        | none => refuse .badValue ps s
        | some d => stageEdit (.winDefine win d) [] ps s

/-- WIN_DEFINE, 30h (R125). -/
def execWinDefine (t : Nat) (s : State) : Outcome := .next (serve 0x30#8 bodyWinDefine t s)

/-! ### WIN_PLACE, WIN_SHOW and WIN_RETIRE -/

/-- WIN_PLACE's body, in the order of R127. -/
def bodyWinPlace (ps : List Byte) (s : State) : Answer :=
  let win := field ps 0 1
  let x := field ps 1 2
  let y := field ps 3 2
  if ps.length ≠ 7 then refuse .badLength ps s
  else if Config.windowRecords ≤ win then refuse .badIndex ps s
  else if 4095 < x ∨ 4095 < y then refuse .badValue ps s
  else stageEdit (.winPlace win x y (clampZ (field ps 5 1)) (clampAlpha (field ps 6 1))) [] ps s

/-- WIN_PLACE, 31h (R127). -/
def execWinPlace (t : Nat) (s : State) : Outcome := .next (serve 0x31#8 bodyWinPlace t s)

/-- WIN_SHOW's body, in the order of R128. -/
def bodyWinShow (ps : List Byte) (s : State) : Answer :=
  let win := field ps 0 1
  let option := field ps 1 1
  if ps.length ≠ 2 then refuse .badLength ps s
  else if Config.windowRecords ≤ win then refuse .badIndex ps s
  else if 1 < option then refuse .badValue ps s
  else stageEdit (.winShow win (option == 1)) [] ps s

/-- WIN_SHOW, 32h (R128). -/
def execWinShow (t : Nat) (s : State) : Outcome := .next (serve 0x32#8 bodyWinShow t s)

/-- WIN_RETIRE's body, in the order of R129. -/
def bodyWinRetire (ps : List Byte) (s : State) : Answer :=
  let win := field ps 0 1
  if ps.length ≠ 1 then refuse .badLength ps s
  else if Config.windowRecords ≤ win then refuse .badIndex ps s
  else stageEdit (.winRetire win) [] ps s

/-- WIN_RETIRE, 33h (R129). -/
def execWinRetire (t : Nat) (s : State) : Outcome := .next (serve 0x33#8 bodyWinRetire t s)

/-! ### WIN_READ (R144, R181) -/

/-- The kind's fields of WIN_READ part 0. -/
def kindReport (k : WindowKind) (launches : Nat) : List Byte :=
  match k with
  | .solid => []
  | .image page width height => be 1 page ++ be 2 width ++ be 2 height
  | .figures base refresh selectors =>
    be 1 base ++ be 1 (refresh % 256) ++ be 1 launches ++ be 1 selectors.length
      ++ selectors.map fun x => byte x.code

/-- WIN_READ part 0. -/
def windowReport (w : Window) : List Byte :=
  match w.definition with
  | none => be 1 w.state.code
  | some d =>
    be 1 w.state.code ++ be 1 d.kind.code ++ be 2 d.x ++ be 2 d.y ++ be 2 d.w ++ be 2 d.h ++ be 1 d.z ++ be 1 d.alpha
      ++ be 1 d.scale ++ be 1 (orNone d.binding) ++ be 1 d.palette.length ++ kindReport d.kind w.launches
      ++ be 2 w.dropped

/-- WIN_READ part 1, of a window that is not FREE. -/
def paletteReport (w : Window) : Option (List Byte) :=
  w.definition.map fun d => d.palette.flatMap paletteBytes

/-- WIN_READ part 2, of a FIGURES window. -/
def textReport (w : Window) : Option (List Byte) :=
  match w.definition with
  | some { kind := .figures _ _ _, .. } => some (w.text.flatten.map byte)
  | _ => none

/-- A report, or WRONG_STATE for a window that has none. -/
def reportOr (data : Option (List Byte)) (ps : List Byte) (s : State) : Answer :=
  match data with
  | some d => accept d s
  | none => refuse .wrongState ps s

/-- WIN_READ's body (R144). R144 lists its refusals without an order; where two hold, the one listed first is given, which is the
model's choice (assumption 40). -/
def bodyWinRead (ps : List Byte) (s : State) : Answer :=
  let win := field ps 0 1
  if ps.length ≠ 2 then refuse .badLength ps s
  else if Config.windowRecords ≤ win then refuse .badIndex ps s
  else
    match field ps 1 1 with
    | 0 => accept (windowReport (windowAt s win)) s
    | 1 => reportOr (paletteReport (windowAt s win)) ps s
    | 2 => reportOr (textReport (windowAt s win)) ps s
    | _ => refuse .badValue ps s

/-- WIN_READ, 34h (R144). -/
def execWinRead (t : Nat) (s : State) : Outcome := .next (serve 0x34#8 bodyWinRead t s)

/-! ### IMG_WRITE and IMG_READ -/

/-- Bytes written from a start address, the write pointer after them, and the reply with the number written
(R136, R137). -/
def writeImage (start : Nat) (data : List Byte) (s : State) : Answer :=
  let pointer := min (start + data.length) Config.imageBytes
  accept (be 1 (min data.length (Config.imageBytes - start)) ++ be 3 pointer)
    (s.setOverlay { s.overlay with image := imageWriteAll start data s.overlay.image, writePtr := pointer })

/-- IMG_WRITE's body, in the order of R136. -/
def bodyImgWrite (ps : List Byte) (s : State) : Answer :=
  let form := field ps 0 1
  let page := field ps 1 1
  let offset := field ps 2 2
  if ps.length < 2 then refuse .badLength ps s
  else if 1 < form then refuse .badValue ps s
  else if form = 0 then
    if ps.length < 5 ∨ 52 < ps.length then refuse .badLength ps s
    else if Config.imagePages ≤ page ∨ Config.pageBytes ≤ offset then refuse .badValue ps s
    else writeImage (page * Config.pageBytes + offset) (ps.drop 4) s
  else if 49 < ps.length then refuse .badLength ps s
  else writeImage s.overlay.writePtr (ps.drop 1) s

/-- IMG_WRITE, 35h (R136). -/
def execImgWrite (t : Nat) (s : State) : Outcome := .next (serve 0x35#8 bodyImgWrite t s)

/-- The bytes of image memory from an address on, up to a count or to the end of memory (R138). -/
def imageBytesFrom (start count : Nat) (s : State) : List Byte :=
  (List.range (min count (Config.imageBytes - start))).map fun i => imageRead (start + i) s.overlay.image

/-- IMG_READ's body (R138). -/
def bodyImgRead (ps : List Byte) (s : State) : Answer :=
  let page := field ps 0 1
  let offset := field ps 1 2
  let count := field ps 3 1
  if ps.length ≠ 4 then refuse .badLength ps s
  else if Config.imagePages ≤ page ∨ Config.pageBytes ≤ offset ∨ count = 0 ∨ Config.maxLength < count then
    refuse .badValue ps s
  else accept (imageBytesFrom (page * Config.pageBytes + offset) count s) s

/-- IMG_READ, 36h (R138). -/
def execImgRead (t : Nat) (s : State) : Outcome := .next (serve 0x36#8 bodyImgRead t s)

end Sys2Proof.Machine
end

