-- ==== Sys2Proof/Machine/Dispatch.lean ====
section
/-! DEFINITION. Each command's meaning: one arm per row of spec/opcode_table.json. -/

namespace Sys2Proof.Machine

/-- The effect of a command on everything but the queue. -/
def exec (i : Instr) (s : State) : Host.Outcome State Fault Refusal :=
  match i with
  | .externalReset t csLow => Sys2Proof.Machine.execExternalReset t csLow s
  | .startupComplete t => Sys2Proof.Machine.execStartupComplete t s
  | .sourceFrameStart t signalOk format depth vrr game => Sys2Proof.Machine.execSourceFrameStart t signalOk format depth vrr game s
  | .lineStart t => Sys2Proof.Machine.execLineStart t s
  | .activeLineStart t storeFirst => Sys2Proof.Machine.execActiveLineStart t storeFirst s
  | .pixelTransfer t lane0 lane1 lane2 lane3 => Sys2Proof.Machine.execPixelTransfer t lane0 lane1 lane2 lane3 s
  | .lineComplete t => Sys2Proof.Machine.execLineComplete t s
  | .signalOkFall t => Sys2Proof.Machine.execSignalOkFall t s
  | .frameStartTimerExpiry => Sys2Proof.Machine.execFrameStartTimerExpiry s
  | .liveLaunch => Sys2Proof.Machine.execLiveLaunch s
  | .predictedRedraw => Sys2Proof.Machine.execPredictedRedraw s
  | .periodicLaunch => Sys2Proof.Machine.execPeriodicLaunch s
  | .forcedDeadline => Sys2Proof.Machine.execForcedDeadline s
  | .holdTimerExpiry => Sys2Proof.Machine.execHoldTimerExpiry s
  | .restTimerExpiry => Sys2Proof.Machine.execRestTimerExpiry s
  | .panelLineStart => Sys2Proof.Machine.execPanelLineStart s
  | .scanEnd => Sys2Proof.Machine.execScanEnd s
  | .trailEnd => Sys2Proof.Machine.execTrailEnd s
  | .switchEnd stageFirst => Sys2Proof.Machine.execSwitchEnd stageFirst s
  | .post t ev => Sys2Proof.Machine.execPost t ev s
  | .malformedPost t ev => Sys2Proof.Machine.execMalformedPost t ev s
  | .fetch t ev => Sys2Proof.Machine.execFetch t ev s
  | .statusOnly t ev => Sys2Proof.Machine.execStatusOnly t ev s
  | .unknownCode t => Sys2Proof.Machine.execUnknownCode t s
  | .echo t => Sys2Proof.Machine.execEcho t s
  | .identify t => Sys2Proof.Machine.execIdentify t s
  | .start t => Sys2Proof.Machine.execStart t s
  | .standby t => Sys2Proof.Machine.execStandby t s
  | .wake t => Sys2Proof.Machine.execWake t s
  | .resetPart t => Sys2Proof.Machine.execResetPart t s
  | .eventMask t => Sys2Proof.Machine.execEventMask t s
  | .eventRead t => Sys2Proof.Machine.execEventRead t s
  | .groupOpen t => Sys2Proof.Machine.execGroupOpen t s
  | .groupClose t => Sys2Proof.Machine.execGroupClose t s
  | .catStore t => Sys2Proof.Machine.execCatStore t s
  | .catRetire t => Sys2Proof.Machine.execCatRetire t s
  | .catRead t => Sys2Proof.Machine.execCatRead t s
  | .catStats t => Sys2Proof.Machine.execCatStats t s
  | .catFind t => Sys2Proof.Machine.execCatFind t s
  | .catLock t => Sys2Proof.Machine.execCatLock t s
  | .catList t => Sys2Proof.Machine.execCatList t s
  | .winDefine t => Sys2Proof.Machine.execWinDefine t s
  | .winPlace t => Sys2Proof.Machine.execWinPlace t s
  | .winShow t => Sys2Proof.Machine.execWinShow t s
  | .winRetire t => Sys2Proof.Machine.execWinRetire t s
  | .winRead t => Sys2Proof.Machine.execWinRead t s
  | .imgWrite t => Sys2Proof.Machine.execImgWrite t s
  | .imgRead t => Sys2Proof.Machine.execImgRead t s
  | .profileSet t => Sys2Proof.Machine.execProfileSet t s
  | .profileRead t => Sys2Proof.Machine.execProfileRead t s
  | .setTimers t => Sys2Proof.Machine.execSetTimers t s
  | .setFill t => Sys2Proof.Machine.execSetFill t s
  | .observe t => Sys2Proof.Machine.execObserve t s
  | .pacingRead t => Sys2Proof.Machine.execPacingRead t s
  | .csnSeenHigh t => Sys2Proof.Machine.execCsnSeenHigh t s

end Sys2Proof.Machine
end

