-- ==== Sys2Proof/Safety.lean ====
section
/-! DEFINITION. What counts as a safe state: the laws the manual states of the whole part, as predicates of one state. A
run is safe when each of its steps keeps them. No command stops the machine (there is no fault), so safety is these
laws. -/

namespace Sys2Proof.Machine

/-- The capacity law: queued requests, the request in processing and waiting replies never exceed 8, and no request waits
in the queue while none is in processing (R163, R164). -/
def State.CapacityLaw (s : State) : Prop :=
  capacityInUse s.ctl ≤ Config.portCapacity ∧ (s.ctl.processing = none → s.ctl.requests = [])

/-- The stage never holds more than 16 edits (R146). -/
def State.StageLaw (s : State) : Prop := s.stage.edits.length ≤ Config.stageCapacity

/-- Image memory stands in its one form (R135). -/
def State.ImageLaw (s : State) : Prop := imageWf s.overlay.image = true

/-- The sizes of the tables (0.3, R88, R106, R123), and the most the period list holds (R14). -/
def State.TableLaw (s : State) : Prop :=
  s.cat.length = Config.catalogueSlots ∧ s.store.slots.length = Config.lineSlots
    ∧ s.panel.profiles.length = Config.profileCount ∧ s.overlay.windows.length = Config.windowRecords
    ∧ s.mon.periods.length ≤ 4

/-- The laws of sizes and capacities together. -/
def State.BoundsLaw (s : State) : Prop := s.CapacityLaw ∧ s.StageLaw ∧ s.ImageLaw ∧ s.TableLaw

/-- The record in a slot is ACTIVE. -/
def State.ActiveAt (s : State) (slot : Nat) : Prop := (recordAt s slot).state = .active

/-- The law of the ACTIVE record (R35), with the plan in force (R45): at most one record is ACTIVE; while one is, the pacer
is in LIVE, the monitor SETTLED, and the observation matches the record; and a plan is in force exactly then, naming
its slot. -/
def State.ActiveLaw (s : State) : Prop :=
  (∀ i j, s.ActiveAt i → s.ActiveAt j → i = j)
    ∧ (∀ i, s.ActiveAt i → s.pacer.state = .live ∧ s.mon.state = .settled
        ∧ recordMatches s.mon.obs (recordAt s i) = true ∧ s.plan.map (·.slot) = some i)
    ∧ (s.plan ≠ none → ∃ i, s.ActiveAt i)

end Sys2Proof.Machine
end

