-- ==== Sys2Proof/Certificates/Slice0/Obligations.lean ====
section
/-! DEFINITION. The statements for the provers. Each is one property of the machine; the small definitions before them say
once what several statements share. "Log n" is row n of notes/assumptions. -/

namespace Sys2Proof.Cert

open Sys2Proof.Machine

/-- The state at the tick a command is taken: the later of its tick and the clock (log 1). -/
def atTime (t : Nat) (s : State) : State := { s with now := max s.now t }

/-- The request in processing has a code and parameters (R164). -/
def Serving (s : State) (code : Byte) (ps : List Byte) : Prop := s.ctl.processing = some { code := code, params := ps }

/-- The end of a processing: its reply is at the tail of the reply queue, and the head of the request queue has entered
processing (R164). -/
def replied (code : Byte) (status : Status) (data : List Byte) (s : State) : State :=
  { s with ctl := { s.ctl with
      replies := s.ctl.replies ++ [{ code := code, status := status, data := data }]
      processing := s.ctl.requests.head?
      requests := s.ctl.requests.tail } }

/-- A refusal at tick t: nothing but the reply, whose data is the first up to 8 parameter bytes (R165). -/
def refused (code : Byte) (status : Status) (ps : List Byte) (t : Nat) (s : State) : State :=
  replied code status (ps.take 8) (atTime t s)

/-- A command answers, at some tick, with this reply and no other effect. Where the clock then stands is left open. -/
def OnlyReplies (c : Instr) (s : State) (code : Byte) (status : Status) (data : List Byte) : Prop :=
  ∃ n, exec c s = .next (replied code status data { s with now := n })

/-- An edit accepted: it is the last of the stage list, which in STANDBY and REST with no group open is applied whole at
once (R146, R148); the arming of the forced deadline is then evaluated again (R64). -/
def withEdit (e : Edit) (s : State) : State :=
  let s1 := { s with stage := { s.stage with edits := s.stage.edits ++ [e] } }
  settlePacer
    (if (s.pacer.state = .standby ∨ s.pacer.state = .rest) ∧ s.stage.groupOpen = false then
      applyList (s.stage.edits ++ [e]) s1
    else s1)

/-- The last step of every staged request at tick t: STAGE_FULL with 16 edits in the list, else STAGED (R146). -/
def staged (code : Byte) (e : Edit) (data ps : List Byte) (t : Nat) (s : State) : State :=
  if 16 ≤ s.stage.edits.length then refused code .stageFull ps t s
  else replied code .staged data (withEdit e (atTime t s))

/-- The slot, window or profile a request names in its first parameter byte. -/
def firstByte (ps : List Byte) : Nat := field ps 0 1

/-- The two status bytes of the snapshot (R158, R177): READY, attention, PORT_ERROR and the requests held; the replies
waiting. -/
def snapshot (s : State) : Byte × Byte :=
  (BitVec.ofNat 8 ((if s.ctl.phase = .ready then 128 else 0) + (if flagWord s &&& s.ev.mask ≠ 0#16 then 64 else 0)
      + (if s.ev.flags.getLsbD 13 = true then 32 else 0)
      + (s.ctl.requests.length + if s.ctl.processing.isSome then 1 else 0)),
    BitVec.ofNat 8 s.ctl.replies.length)

/-- An instant of a transaction, as each of the four rows of transactions carries it: the row does not decide what the
transaction is (log 36). -/
def wireRows (t : Nat) (ev : WireEvent) : List Instr := [.post t ev, .malformedPost t ev, .fetch t ev, .statusOnly t ev]

/-- A byte's bits, the most significant first (R157). -/
def bitsOfByte (b : Byte) : List Bool :=
  [b.getLsbD 7, b.getLsbD 6, b.getLsbD 5, b.getLsbD 4, b.getLsbD 3, b.getLsbD 2, b.getLsbD 1, b.getLsbD 0]

/-- The bits of bytes in order, cut after `clocks` of them. -/
def bitsOf (bytes : List Byte) (clocks : Nat) : List Bool := (bytes.flatMap bitsOfByte).take clocks

/-- 00h in every later byte: as many as `clocks` could need. -/
def zeros (clocks : Nat) : List Byte := List.replicate clocks 0x00#8

/-- These levels of SDI, at the rising edges of as many periods of SCK, complete the byte v of a transaction (R157). -/
def Completes (x : Txn) (sdi : List Bool) (v : Byte) : Prop := sdi ≠ [] ∧ x.bits ++ sdi = bitsOfByte v

/-- Byte k of what the port sends in a transaction, k from 1 (the table of R157; R160, R161, R166). -/
def sentByte (x : Txn) (k : Nat) : Byte :=
  if k = 1 then x.status0
  else if k = 2 then x.status1
  else if x.received.head? = some 0x02#8 then
    match x.chosen with
    | some r => ([r.code, r.status.code, BitVec.ofNat 8 r.data.length] ++ r.data).getD (k - 3) 0x00#8
    | none => [0x00#8, 0xFF#8, 0x00#8].getD (k - 3) 0x00#8
  else if x.received.head? = some 0x03#8 then 0x00#8
  else
    match x.finding with
    | .undecided => 0x00#8
    | .decided n accept => if k = 4 + n then accept else 0x00#8
    | .malformed from_ => if from_ ≤ k then 0x03#8 else 0x00#8

/-- A transaction as a falling edge of SCK leaves it: SDO drives the next bit of the byte being sent, the most significant first
(R157). -/
def shown (x : Txn) : Txn := { x with drive := (sentByte x (x.received.length + 1)).getLsbD (7 - x.bits.length) }

/-- A transaction with one more complete byte, what has been found of it, and the first bit of the next byte on SDO. -/
def grown (x : Txn) (v : Byte) (finding : TxnFinding) : Txn :=
  shown { x with bits := [], received := x.received ++ [v], finding := finding }

/-- The rising edges of SCK in a transaction so far. -/
def edges (x : Txn) : Nat := 8 * x.received.length + x.bits.length

/-- The transaction in progress is over, and these bits have been sent in it. -/
def txnOver (bytes : List Byte) (x : Txn) (s : State) : State :=
  { s with ctl := { s.ctl with txn := none, sdo := bitsOf bytes (edges x) } }

/-- How a reply writes a number (R1, R181): most significant byte first, at its field's width; a wider one as the field's largest
value; a signed one in two's complement. -/
def FieldRules : Prop :=
  (∀ size v : Nat, (be size v).length = size ∧ (v < 256 ^ size → beValue (be size v) = v)
      ∧ (256 ^ size ≤ v → be size v = List.replicate size 0xFF#8))
    ∧ ∀ v : Int, -2147483648 ≤ v → v ≤ 2147483647 → beSigned v = be 4 (v % 4294967296).toNat

/-- The plan block of 47 bytes (R181). -/
def planBytes (p : Plan) : List Byte :=
  be 3 (p.wout * 4096 + p.hout) ++ be 3 (p.xoff * 4096 + p.yoff) ++ be 3 p.sh ++ be 3 p.sv ++ be 3 p.lp ++ be 3 p.plead
    ++ be 4 p.tscan ++ be 4 p.tmin ++ beSigned p.d ++ be 4 p.w ++ beSigned p.de ++ be 1 p.q ++ be 1 p.slack ++ be 3 p.amax
    ++ be 3 p.limit ++ [if p.predict then 1#8 else 0#8]

/-- PORT_ERROR set, and no other flag changed (R161, R171). -/
def portErrorSet (s : State) : State := { s with ev := { s.ev with flags := s.ev.flags ||| 0x2000#16 } }

/-- The transaction in progress with what the port has found of it. -/
def withTxn (x : Txn) (s : State) : State := { s with ctl := { s.ctl with txn := some x } }

/-- A flag set, whatever its enable, and nothing else (R171); `bit` is its position of R180. -/
def flagged (bit : Nat) (s : State) : State := { s with ev := { s.ev with flags := s.ev.flags ||| 1#16 <<< bit } }

/-- A report counted in the ACTIVE record, and discarded when there is none (R29). -/
def counted (f : Stats → Stats) (s : State) : State :=
  { s with cat := s.cat.map fun r => if r.state = .active then { r with stats := f r.stats } else r }

/-- One more on a 32-bit counter that saturates (R29). -/
def more (n : Nat) : Nat := min 4294967295 (n + 1)

/-- Tmin of a profile at a line period: ceil of its lines' time in ticks (R54). -/
def spacingOf (p : Profile) (lp : Nat) : Nat := ((p.nlead + p.hp + p.nfpMin) * lp + 15) / 16

/-- The store at the end of a LIVE scan: the slots of the scan's entry are released and the entry is removed (R104). Without such
an entry nothing changes. -/
def scanEnded (l : LineStore) : LineStore :=
  match scanningEntry l with
  | some e =>
    { slots := l.slots.map fun x => if x.state ≠ .free ∧ x.tag = e.tag then { x with state := .free } else x
      entries := l.entries.filter fun x => decide (x.phase ≠ .scanning) }
  | none => l

/-- A launch (R62, R111, R112, R95): the port enters LEAD on the launch's profile and line period, sends the frame marker,
and the redraw marker for a REDRAW, with data-enable low; a pending stop is cleared, and a launch to come is made (R118). A
LIVE launch binds the DECIDED entry, whose record fill colour the frame keeps. An entry still SCANNING is ended first (log 42).
The last interval and the last launch are recorded. -/
def launched (kind : LaunchKind) (reason : LaunchReason) (lf when_ : Nat) (s : State) : State :=
  let p := launchProfile s
  { s with
    panel := { s.panel with
      state := .lead
      phase := match s.panel.phase with
        | .pending _ => .pending false
        | x => x
      stopPending := false
      frame := some {
        launch := when_, kind := kind, lf := lf, profile := launchProfileIndex s, wp := p.wp, hp := p.hp
        nlead := p.nlead, nfpMin := p.nfpMin
        fill := if kind = .live then ((decidedEntry s.store).map (·.fill)).getD ⟨0, 0, 0⟩ else ⟨0, 0, 0⟩
        nextLine := 0 }
      blankPeriod := lf
      blankFrom := when_
      out := { frameMarkers := s.panel.out.frameMarkers + 1, dataEnable := false,
               redrawMarker := decide (kind = .redraw), line := [] } }
    store := if kind = .live then
        { scanEnded s.store with entries := (scanEnded s.store).entries.map fun e =>
            if e.phase = .decided then { e with phase := .scanning } else e }
      else scanEnded s.store
    pacer := { s.pacer with
      lastInterval := s.pacer.last.map fun l => when_ - l.time
      last := some { time := when_, kind := kind, reason := reason, spacing := spacingOf p lf } } }

/-- The line period of a launch that is not a live one (R62). -/
def otherPeriod (s : State) : Nat :=
  match s.pacer.state, s.plan with
  | .live, some p => p.lp
  | _, _ => (currentProfile s).lpMin

/-- The schedule after a launch in FREE_RUN or HOLD: one periodic launch at the later of L_last + FR and e, and none while a
switch is pending or in progress (R66). In another state it is as it was. -/
def nextPeriodic (s : State) : List SchedEntry :=
  if s.pacer.state = .freeRun ∨ s.pacer.state = .hold then
    if s.pacer.tracking = .noSwitch then
      [{ time := match s.pacer.last with
          | some l => max (l.time + (currentProfile s).fr) (l.time + l.spacing)
          | none => 0
         reason := .periodic, kind := if s.pacer.state = .hold then .redraw else .generated }]
    else []
  else s.pacer.schedule

/-- The rest timer when the pacer enters STANDBY (R80, R82, R87): loaded when it leaves REST, and otherwise paused with what
remains; a stopped timer stays stopped. -/
def restOnStop (now : Nat) (p : Pacer) : Timer :=
  if p.state = .rest then if p.restTime = 0 then .stopped else .paused (p.restTime * 10000000)
  else
    match p.restTimer with
    | .running e => .paused (e - now)
    | x => x

/-- The schedule replaced. -/
def scheduled (l : List SchedEntry) (s : State) : State := { s with pacer := { s.pacer with schedule := l } }

/-- The port at the end of a switch at e (R119): the phase is NONE; under a pending stop it is IDLE, and the stop is carried out
(log 15); otherwise it is BLANK at Lp_min of the current profile from e on. -/
def switchOver (e : Nat) (s : State) : State :=
  { s with panel := { s.panel with
      phase := .noSwitch
      state := if s.panel.stopPending then .idle else .blank
      stopPending := false
      blankPeriod := if s.panel.stopPending then s.panel.blankPeriod else (currentProfile s).lpMin
      blankFrom := if s.panel.stopPending then s.panel.blankFrom else e } }

/-- The source line that begins at a line start. -/
def freshLine : SourceLine :=
  { active := false, complete := false, width := 0, number := 0, frameStart := 0, inFrame := false }

/-- The line in progress as one that awaits its line complete: it has active data and data-enable has not fallen (R2). -/
def awaiting (l : Option SourceLine) : List LineRef :=
  match l with
  | some l => if l.active = true ∧ l.complete = false then [{ frameStart := l.frameStart, number := l.number }] else []
  | none => []

/-- The measurements of a frame as the observation takes them in, saturated, with the out-of-range flag; frames since settle
is none of them (R3, R4). -/
def takenIn (f : SourceFrame) (o : Observation) : Observation :=
  let width := min f.width0 8191
  let height := min f.lines 4095
  { width := width, height := height, format := f.format, depth := f.depth, ls := f.ls, slead := f.slead, vrr := f.vrr
    game := f.game
    outOfRange := decide (¬(64 ≤ width ∧ width ≤ 3840 ∧ 64 ≤ height ∧ height ≤ 2160 ∧ 1600 ≤ f.ls ∧ f.ls ≤ 320000))
    sinceSettle := o.sinceSettle }

/-- Two line periods lie within 4 sixteenth-ticks of each other (R8, R11). -/
def near (a b : Nat) : Prop := a ≤ b + 4 ∧ b ≤ a + 4

/-- No record is ACTIVE and no plan is in force. -/
def NoneActive (s : State) : Prop := (∀ r ∈ s.cat, r.state ≠ .active) ∧ s.plan = none

/-- The monitor in NO_SIGNAL holds its cleared values, with no frame, no line and no timer; the loss latch is free (R5,
R12). -/
def ClearedInNoSignal (s : State) : Prop :=
  s.mon.state = .noSignal → s.mon = { State.reset.mon with lossLatch := s.mon.lossLatch }

/-- One section of a chain: its tag and its body (R179). -/
abbrev Section := Byte × List Byte

/-- Sections as they are sent: the tag, the body length, the body. -/
def sectionBytes (l : List Section) : List Byte := l.flatMap fun x => x.1 :: BitVec.ofNat 8 x.2.length :: x.2

/-- The body of the section with a tag. -/
def bodyOf (tag : Byte) (l : List Section) : Option (List Byte) := (l.find? fun x => x.1 == tag).map Prod.snd

/-- A known section's body has the length its layout gives (R19, R179). -/
def LengthRight (tag : Byte) (length : Nat) : Prop :=
  (tag = 0x01#8 → length = 11) ∧ (tag = 0x02#8 → length = 16) ∧ (tag = 0x03#8 → length = 4) ∧ (tag = 0x04#8 → length ≠ 0)

/-- A known section's fields pass their checks (R20, R21, R22). -/
def FieldsRight (tag : Byte) (body : List Byte) : Prop :=
  (tag = 0x01#8 → keyOf body ≠ none) ∧ (tag = 0x02#8 → presentOf body ≠ none) ∧ (tag = 0x03#8 → pacingOf body ≠ none)

/-- Sections that pass every check as they are read (R19). -/
def SectionsRight (l : List Section) : Prop :=
  (∀ x ∈ l, x.1 ≠ 0x00#8 ∧ x.2.length ≤ 255 ∧ LengthRight x.1 x.2.length ∧ FieldsRight x.1 x.2)
    ∧ (l.map Prod.fst).Nodup

/-- How a section chain is read (R19, R22). Sections that pass, then END: the content, with the defaults of the optional sections,
and the number of unknown ones; BAD_VALUE with KEY or PRESENT missing. After such sections, BAD_LENGTH: no END, bytes after END,
a header or a body cut off, a known section of another length. BAD_VALUE: a tag met before, a field that fails its check.
Of one section the length is checked first, then the tag, then the fields (log 31). -/
def ChainRules : Prop :=
  ∀ l : List Section, SectionsRight l →
    let good := sectionBytes l
    (∀ kb pb k p, bodyOf 0x01#8 l = some kb → keyOf kb = some k → bodyOf 0x02#8 l = some pb → presentOf pb = some p →
      ∀ pacing : Pacing,
        (bodyOf 0x03#8 l).elim (pacing = { given := false, redraw := .predict, ceiling := 16777215 })
          (fun b => pacingOf b = some pacing) →
        chainOf (good ++ [0x00#8]) = .ok
          ({ key := k, present := p, pacing := pacing
             label := ((bodyOf 0x04#8 l).map fun b => (b.map glyphOf).take 16).getD [] },
           (l.filter fun x => decide (4 < x.1.toNat)).length))
    ∧ (bodyOf 0x01#8 l = none ∨ bodyOf 0x02#8 l = none → chainOf (good ++ [0x00#8]) = .error .badValue)
    ∧ chainOf good = .error .badLength
    ∧ (∀ b rest, chainOf (good ++ 0x00#8 :: b :: rest) = .error .badLength)
    ∧ (∀ tag : Byte, tag ≠ 0x00#8 →
        chainOf (good ++ [tag]) = .error .badLength
        ∧ (∀ (length : Byte) (rest : List Byte), rest.length < length.toNat →
            chainOf (good ++ tag :: length :: rest) = .error .badLength)
        ∧ (∀ body rest : List Byte, body.length ≤ 255 →
            let read := chainOf (good ++ sectionBytes [(tag, body)] ++ rest)
            (¬LengthRight tag body.length → read = .error .badLength)
            ∧ (LengthRight tag body.length → tag ∈ l.map Prod.fst ∨ ¬FieldsRight tag body → read = .error .badValue)))

/-- The field checks of the known sections (R20, R21, R22, R178, R179). -/
def SectionRules : Prop :=
  ∀ b : List Byte,
    let packed := field b 10 1
    let keyInRange := (field b 0 2 = 0 ∨ (64 ≤ field b 0 2 ∧ field b 0 2 ≤ 3840))
      ∧ (field b 2 2 = 0 ∨ (64 ≤ field b 2 2 ∧ field b 2 2 ≤ 2160))
      ∧ ((field b 4 3 = 0 ∧ field b 7 3 = 0)
        ∨ (1600 ≤ field b 4 3 ∧ field b 4 3 ≤ field b 7 3 ∧ field b 7 3 ≤ 320000))
      ∧ packed % 4 ≠ 3 ∧ packed / 4 % 4 ≠ 3 ∧ packed / 16 % 4 ≠ 3 ∧ packed < 64
    (keyInRange → keyOf b = some
      { width := if field b 0 2 = 0 then none else some (field b 0 2)
        height := if field b 2 2 = 0 then none else some (field b 2 2)
        window := if field b 4 3 = 0 then none else some (field b 4 3, field b 7 3)
        format := if packed % 4 = 0 then none else if packed % 4 = 1 then some .full else some .half
        depth := if packed / 4 % 4 = 0 then none else if packed / 4 % 4 = 1 then some .d8 else some .d10
        vrr := if packed / 16 % 4 = 0 then none else some (decide (packed / 16 % 4 = 2)) })
    ∧ (¬keyInRange → keyOf b = none)
    ∧ (let index := field b 0 1 % 16
      let mode := field b 0 1 / 16
      let guard := min 15 (field b 9 1)
      let fill : Colour := ⟨min (field b 10 2) 1023, min (field b 12 2) 1023, min (field b 14 2) 1023⟩
      let placed := 1 ≤ field b 1 2 ∧ field b 1 2 ≤ 3840 ∧ 1 ≤ field b 3 2 ∧ field b 3 2 ≤ 2160
        ∧ field b 5 2 ≤ 3839 ∧ field b 7 2 ≤ 2159
      (3 < index ∨ 3 < mode → presentOf b = none)
      ∧ (index ≤ 3 → mode = 0 → placed → presentOf b = some
          { profile := index, mode := .explicit, wout := field b 1 2, hout := field b 3 2, xoff := field b 5 2
            yoff := field b 7 2, guard := guard, fill := fill })
      ∧ (mode = 0 → ¬placed → presentOf b = none)
      ∧ (index ≤ 3 → 1 ≤ mode → mode ≤ 3 → presentOf b = some
          { profile := index, mode := if mode = 1 then .native else if mode = 2 then .fit else .integer
            wout := 0, hout := 0, xoff := 0, yoff := 0, guard := guard, fill := fill }))
    ∧ (field b 0 1 = 0 → pacingOf b = some { given := true, redraw := .predict, ceiling := field b 1 3 })
    ∧ (field b 0 1 = 1 → pacingOf b = some { given := true, redraw := .deadline, ceiling := field b 1 3 })
    ∧ (1 < field b 0 1 → pacingOf b = none)

/-- The forty characters and their glyph indices (R22, R178); every other byte is a space. -/
def CharacterRules : Prop :=
  (List.range 40).map charOf
      = (List.range 10).map (fun i => BitVec.ofNat 8 (0x30 + i)) ++ (List.range 26).map (fun i => BitVec.ofNat 8 (0x41 + i))
        ++ [0x20#8, 0x2E#8, 0x2D#8, 0x3A#8]
    ∧ (∀ g < 40, glyphOf (charOf g) = g) ∧ ∀ c : Byte, (∀ g < 40, charOf g ≠ c) → glyphOf c = 36

/-- The number of a key's fields that are not ANY (R20). -/
def keyCount (k : Key) : Nat :=
  [k.width.isSome, k.height.isSome, k.format.isSome, k.depth.isSome, k.window.isSome, k.vrr.isSome].count true

/-- A content's key agrees with an observation that is in range (R30). -/
def KeyAgrees (o : Observation) (k : Key) : Prop :=
  o.outOfRange = false ∧ (∀ v, k.width = some v → v = o.width) ∧ (∀ v, k.height = some v → v = o.height)
    ∧ (∀ v, k.format = some v → v = o.format) ∧ (∀ v, k.depth = some v → v = o.depth)
    ∧ (∀ v, k.window = some v → v.1 ≤ o.ls ∧ o.ls ≤ v.2) ∧ (∀ v, k.vrr = some v → v = o.vrr)

/-- Which records match an observation, and the order they are tried in (R30, R31): READY and ACTIVE records whose key agrees;
by specificity, highest first, and by slot number, lowest first, among equals. -/
def CandidateRules : Prop :=
  ∀ (cat : List ModeRecord) (o : Observation),
    let content := fun (i : Nat) => (cat.getD i .free).content
    let count := fun (i : Nat) => ((content i).map fun c => keyCount c.key).getD 0
    (∀ i, i ∈ candidates cat o ↔
        i < 48 ∧ (cat.getD i .free).state ≠ .free ∧ ∃ c, content i = some c ∧ KeyAgrees o c.key)
      ∧ (candidates cat o).Pairwise (fun a b => count b < count a ∨ (count a = count b ∧ a < b))

/-- An edit is visible: its window is SHOWN just before or just after it is carried out (R130). -/
def shows (e : Edit) (s : State) : Prop :=
  ∃ win, ((∃ d, e = .winDefine win d) ∨ (∃ x y z alpha, e = .winPlace win x y z alpha) ∨ (∃ b, e = .winShow win b)
      ∨ e = .winRetire win)
    ∧ ((windowAt s win).state = .shown ∨ (windowAt (applyEdit e s) win).state = .shown)

/-- An edit of a catalogue slot. -/
def ofSlot (e : Edit) (slot : Nat) : Prop := (∃ c, e = .catStore slot c) ∨ e = .catRetire slot

/-- Some edit of a list, carried out one after another, has a property in the state that finds it. -/
def Some_ (p : Edit → State → Prop) : List Edit → State → Prop
  | [], _ => False
  | e :: rest, s => p e s ∨ Some_ p rest (applyEdit e s)

/-- A text right-aligned or left-aligned in its row of sixteen cells, the space glyph 36 in the others (R142). -/
def rightText (l : List Nat) : List Nat := List.replicate (16 - l.length) 36 ++ l
def leftText (l : List Nat) : List Nat := l ++ List.replicate (16 - l.length) 36

/-- A value in tenths as text, and a time in ticks as microseconds (R142); 37 is the full stop and 38 the hyphen. -/
def tenths (u : Nat) : List Nat := decimal (u / 10) ++ [37, u % 10]
def micros (t : Int) : List Nat :=
  let u := min 99999 ((t.natAbs + 5) / 10)
  (if t < 0 ∧ 0 < u then [38] else []) ++ tenths u

/-- The rate of a period above 0, in tenths of a hertz (R142). -/
def rate (p : Nat) : Nat := min 9999 ((1000000000 + p / 2) / p)

/-- The figures of a window (R141, R142, R143): the row of each selector from the values as they stand, "---.-" and "-" where
they are unknown; a LIVE or GENERATED launch counts toward every FIGURES window and latches its text at the refresh interval; a
REDRAW counts toward none. A rate of a period estimate of 0 is left open (log 8). -/
def FiguresRules : Prop :=
  (∀ (s : State) (base refresh : Nat) (sel : List Selector),
    textOf s .solid = [] ∧ (∀ w h, textOf s (.image base w h) = [])
      ∧ textOf s (.figures base refresh sel) = sel.map (rowText s))
  ∧ (∀ s : State,
    let unknown := [38, 38, 38, 37, 38]
    let stats := (s.cat.find? fun r => r.state == .active).map (·.stats)
    let label := (s.cat.find? fun r => r.state == .active).bind (·.content)
    rowText s .none = []
      ∧ (s.mon.periods = [] → rowText s .sourceRate = rightText unknown)
      ∧ (s.mon.periods ≠ [] → 0 < s.mon.periods.sum / s.mon.periods.length →
          rowText s .sourceRate = rightText (tenths (rate (s.mon.periods.sum / s.mon.periods.length))))
      ∧ (s.pacer.lastInterval = none ∨ s.pacer.lastInterval = some 0 → rowText s .panelRate = rightText unknown)
      ∧ (∀ p, s.pacer.lastInterval = some p → 0 < p → rowText s .panelRate = rightText (tenths (rate p)))
      ∧ rowText s .startLag = rightText ((s.plan.map fun p => micros p.de).getD unknown)
      ∧ rowText s .addedLag = rightText ((s.pacer.lastLag.map fun l => micros l).getD unknown)
      ∧ rowText s .skipped = rightText ((stats.map fun x => decimal (min x.skipped 99999999)).getD [38])
      ∧ rowText s .redraws = rightText ((stats.map fun x => decimal (min (x.predicted + x.forced) 99999999)).getD [38])
      ∧ rowText s .label = leftText ((label.map (·.label)).getD []))
  ∧ (∀ n : Nat, n < 100000000 →
    (decimal n).foldl (fun v d => 10 * v + d) 0 = n ∧ (∀ d ∈ decimal n, d < 10)
      ∧ (0 < n → (decimal n).head? ≠ some 0) ∧ (n = 0 → decimal n = [0]))
  ∧ ∀ s : State, figuresOnLaunch .redraw s = s
    ∧ ∀ kind ∈ [LaunchKind.live, .generated],
      figuresOnLaunch kind s = { s with overlay := { s.overlay with windows := s.overlay.windows.map fun w =>
        match w.definition with
        | none => w
        | some d =>
          match d.kind with
          | .figures _ refresh _ =>
            if w.launches + 1 < refresh then { w with launches := w.launches + 1 }
            else { w with text := textOf s d.kind, launches := 0 }
          | .solid | .image _ _ _ => w } }

/-- The half of a byte a pixel's index stands in: the high one for an even pixel (R139, R140). -/
def halfOf (b : Byte) (pixel : Nat) : Nat := if pixel % 2 = 0 then b.toNat / 16 else b.toNat % 16

/-- A palette index as a colour: 0, and an index above the count, is transparent (R133). -/
def colourOf (palette : List Colour) (i : Nat) : Option Colour := if i = 0 then none else palette[i - 1]?

/-- The window pixel a across and b down (R133, R139, R140), and what a window makes of one panel pixel: its colour blended by
alpha where it covers the pixel and is not transparent (R134). -/
def WindowPixelRules : Prop :=
  (∀ (mem : List Host.Cell) (d : WindowDef) (text : List (List Nat)) (a b : Nat),
    let u := a / d.scale
    let v := b / d.scale
    (d.kind = .solid → windowPixel mem d text a b = d.palette[0]?)
    ∧ (∀ page width height, d.kind = .image page width height →
        windowPixel mem d text a b =
          if u < width ∧ v < height then
            colourOf d.palette (halfOf (imageRead (page * 2048 + v * ((width + 1) / 2) + u / 2) mem) u)
          else none)
    ∧ (∀ base refresh sel, d.kind = .figures base refresh sel →
        (16 ≤ u / 8 ∨ text.length ≤ v / 16 → windowPixel mem d text a b = none)
        ∧ (∀ row, u / 8 < 16 → text[v / 16]? = some row → row = [] → windowPixel mem d text a b = none)
        ∧ (∀ row g, u / 8 < 16 → text[v / 16]? = some row → row[u / 8]? = some g →
            windowPixel mem d text a b
              = colourOf d.palette
                  (halfOf (imageRead (base * 2048 + 64 * g + 4 * (v % 16) + u % 8 / 2) mem) (u % 8)))))
  ∧ ∀ (mem : List Host.Cell) (w : Window) (d : WindowDef) (x y : Nat) (pic : Colour), w.definition = some d →
    let mixed := fun (ov under : Nat) => (d.alpha * ov + (16 - d.alpha) * under + 8) / 16
    (x < d.x ∨ d.x + d.w ≤ x → mergePixel mem w x y pic = pic)
    ∧ (windowPixel mem d w.text (x - d.x) (y - d.y) = none → mergePixel mem w x y pic = pic)
    ∧ (∀ c, d.x ≤ x → x < d.x + d.w → windowPixel mem d w.text (x - d.x) (y - d.y) = some c →
        mergePixel mem w x y pic = ⟨mixed c.c0 pic.c0, mixed c.c1 pic.c1, mixed c.c2 pic.c2⟩)

/-- The weights of the sixteen phases (R100). -/
def weightTable : List (Int × Int × Int × Int) :=
  [(0, 64, 0, 0), (-2, 63, 3, 0), (-3, 61, 6, 0), (-4, 59, 10, -1), (-4, 55, 15, -2), (-5, 51, 20, -2), (-5, 47, 25, -3),
    (-4, 41, 30, -3), (-4, 36, 36, -4), (-3, 30, 41, -4), (-3, 25, 47, -5), (-2, 20, 51, -5), (-2, 15, 55, -4),
    (-1, 10, 59, -4), (0, 6, 61, -3), (0, 3, 63, -2)]

/-- How a picture pixel is built (R92, R97, R98, R99, R100): the taps' lines, what stands for a missing one, the reading of a
position no pixel was written to, and the two passes of the filter. -/
def PicturePixelRules : Prop :=
  (∀ (phase t0 t1 t2 t3 : Nat) (w : Int × Int × Int × Int), weightTable[phase]? = some w →
    (filterTaps phase t0 t1 t2 t3 : Int)
      = max 0 (min 1023 ((w.1 * t0 + w.2.1 * t1 + w.2.2.1 * t2 + w.2.2.2 * t3 + 32) / 64)))
  ∧ (∀ (e : FrameEntry) (slots : List LineSlot) (line : Nat),
    let held := fun (x : LineSlot) => x ∈ slots ∧ x.state = .held ∧ x.tag = e.tag
    (tapState e slots line = .held → ∃ x, held x ∧ x.line = line ∧ tapSource e slots line = some x)
    ∧ (tapState e slots line = .notArrived →
        ((∀ x, ¬held x) → tapSource e slots line = none)
        ∧ ((∃ x, held x) → ∃ x, held x ∧ (∀ y, held y → y.line ≤ x.line) ∧ tapSource e slots line = some x))
    ∧ (tapState e slots line = .lost →
        ((∀ x, ¬held x) → tapSource e slots line = none)
        ∧ ((∃ x, held x ∧ x.line < line) → ∃ x, held x ∧ x.line < line
            ∧ (∀ y, held y → y.line < line → y.line ≤ x.line) ∧ tapSource e slots line = some x)
        ∧ ((∃ x, held x) → (∀ x, held x → line < x.line) → ∃ x, held x ∧ (∀ y, held y → x.line ≤ y.line)
            ∧ tapSource e slots line = some x))
    ∧ (tapState e slots line = .held ↔ ∃ x, held x ∧ x.line = line)
    ∧ (tapState e slots line = .notArrived ↔ (¬∃ x, held x ∧ x.line = line)
        ∧ (e.begun ≤ line ∨ ∃ x ∈ slots, x.state = .filling ∧ x.tag = e.tag ∧ x.line = line)))
  ∧ (∀ (fill : Colour) (x : LineSlot) (col : Nat), x.written ≤ x.pixels.length →
    tapPixel fill none col = fill
    ∧ (col < x.written → x.pixels[col]? = some (tapPixel fill (some x) col))
    ∧ (x.written ≤ col → 0 < x.written → x.pixels[x.written - 1]? = some (tapPixel fill (some x) col))
    ∧ (x.written = 0 → tapPixel fill (some x) col = fill))
  ∧ ∀ (e : FrameEntry) (slots : List LineSlot) (j x : Nat),
    let taps := fun (p n : Nat) => (min (p - 1) (n - 1), min p (n - 1), min (p + 1) (n - 1), min (p + 2) (n - 1))
    let pass := fun (phase : Nat) (a b c d : Colour) =>
      (⟨filterTaps phase a.c0 b.c0 c.c0 d.c0, filterTaps phase a.c1 b.c1 c.c1 d.c1, filterTaps phase a.c2 b.c2 c.c2 d.c2⟩ : Colour)
    let lines := taps (j * e.plan.sv / 65536) e.plan.hin
    let columns := taps (x * e.plan.sh / 65536) e.plan.win
    let vertical := fun (col : Nat) =>
      let px := fun (line : Nat) => tapPixel e.fill (tapSource e slots line) col
      pass (j * e.plan.sv / 4096 % 16) (px lines.1) (px lines.2.1) (px lines.2.2.1) (px lines.2.2.2)
    verticalTaps e.plan j = lines
      ∧ picturePixel e slots j x = pass (x * e.plan.sh / 4096 % 16) (vertical columns.1) (vertical columns.2.1)
          (vertical columns.2.2.1) (vertical columns.2.2.2)

/-- How arriving pixels are brought to the store's form (R92, R182). -/
def StoredPixelRules : Prop :=
  ∀ (format : Format) (depth : Depth) (win : Nat) (px : List Colour) (p : RawPixel) (ps : List RawPixel),
    let level := fun (wires : BitVec 10) =>
      match depth with
      | .d8 => wires.toNat / 4 * 4 + wires.toNat / 4 / 64
      | .d10 => wires.toNat
    appendPixels format depth win px [] = px
    ∧ (win ≤ px.length → appendPixels format depth win px (p :: ps) = px)
    ∧ (px.length < win → appendPixels format depth win px (p :: ps) = appendPixels format depth win
        (px ++ [⟨level p.c0,
          if format = .half ∧ px.length % 2 = 1 then (px.getLast?.map (·.c1)).getD 0 else level p.c1,
          if format = .half ∧ px.length % 2 = 1 then (px.getLast?.map (·.c2)).getD 0 else level p.c2⟩]) ps)

/-- The panel output (R113, R182): four pixels a transfer, in lane order, with data-enable high; every component is 0 on a
transfer with data-enable low, which is each one after the line's own and each one of a line that sends no pixels. -/
def TransferRules : Prop :=
  ∀ (o : PanelOut) (n : Nat),
    (o.dataEnable = true → 4 * n + 4 ≤ o.line.length →
      (o.transfer n).dataEnable = true ∧ o.line[4 * n]? = some (o.transfer n).d0
        ∧ o.line[4 * n + 1]? = some (o.transfer n).d1 ∧ o.line[4 * n + 2]? = some (o.transfer n).d2
        ∧ o.line[4 * n + 3]? = some (o.transfer n).d3)
    ∧ (o.dataEnable = false ∨ o.line.length < 4 * n + 4 →
      o.transfer n = { dataEnable := false, d0 := ⟨0, 0, 0⟩, d1 := ⟨0, 0, 0⟩, d2 := ⟨0, 0, 0⟩, d3 := ⟨0, 0, 0⟩ })

/-- The commands that process a request, with the code each serves (9.7); UNKNOWN_CODE is not among them. -/
def requestCommands (t : Nat) : List (Instr × Byte) :=
  [(.echo t, 0x10#8), (.identify t, 0x11#8), (.start t, 0x12#8), (.standby t, 0x13#8), (.wake t, 0x14#8),
    (.resetPart t, 0x15#8), (.eventMask t, 0x16#8), (.eventRead t, 0x17#8), (.groupOpen t, 0x18#8),
    (.groupClose t, 0x19#8), (.catStore t, 0x20#8), (.catRetire t, 0x21#8), (.catRead t, 0x22#8),
    (.catStats t, 0x23#8), (.catFind t, 0x24#8), (.catLock t, 0x25#8), (.catList t, 0x26#8), (.winDefine t, 0x30#8),
    (.winPlace t, 0x31#8), (.winShow t, 0x32#8), (.winRetire t, 0x33#8), (.winRead t, 0x34#8), (.imgWrite t, 0x35#8),
    (.imgRead t, 0x36#8), (.profileSet t, 0x40#8), (.profileRead t, 0x41#8), (.setTimers t, 0x42#8),
    (.setFill t, 0x43#8), (.observe t, 0x50#8), (.pacingRead t, 0x51#8)]

end Sys2Proof.Cert

open Sys2Proof Sys2Proof.Machine Sys2Proof.Cert

/-! ### The step -/

/-- The command at the front of the queue is taken from it and run. -/
def Obligations.StepRunsFrontCommand : Prop :=
  ∀ (s : State) (c : Instr) (rest : List Instr), s.pending = c :: rest → step s = exec c { s with pending := rest }

/-- No command stops the machine; none touches the queue of commands or runs the clock back (the clock and the queue are
the model's, log 1). -/
def Obligations.EveryCommandAnswersNextState : Prop :=
  ∀ (c : Instr) (s : State), ∃ s', exec c s = .next s' ∧ s'.pending = s.pending ∧ s.now ≤ s'.now

/-- With no command waiting the block idles (log 5), and a command does nothing when its occasion does not hold (log 3): both
the model's choice. A request's command acts only on a request of its own code in processing, UNKNOWN_CODE only on one whose
code is in no row of the summary table of 9.7, and a command the part's own clock brings only when the state holds an occasion
for it; for PERIODIC_LAUNCH the end of a switch in FREE_RUN or HOLD is one (R119). -/
def Obligations.CommandsNeedTheirOccasion : Prop :=
  ∀ (s : State) (t : Nat),
    (s.pending = [] → step s = .next s)
      ∧ (∀ p ∈ requestCommands t, (∀ ps, ¬Serving s p.2 ps) → exec p.1 s = .next s)
      ∧ ((∀ code ps, Serving s code ps → code ∈ (requestCommands t).map Prod.snd) → exec (.unknownCode t) s = .next s)
      ∧ (s.mon.timer = none → exec .frameStartTimerExpiry s = .next s)
      ∧ (s.pacer.pending = none → exec .liveLaunch s = .next s)
      ∧ (s.pacer.schedule = [] → exec .predictedRedraw s = .next s)
      ∧ (s.pacer.schedule = [] → (∀ e, s.panel.phase ≠ .switching e) ∨ (s.pacer.state ≠ .freeRun ∧ s.pacer.state ≠ .hold) →
          exec .periodicLaunch s = .next s)
      ∧ (s.pacer.deadline = none → exec .forcedDeadline s = .next s)
      ∧ (s.pacer.state ≠ .hold → exec .holdTimerExpiry s = .next s)
      ∧ (s.pacer.state ≠ .freeRun → exec .restTimerExpiry s = .next s)
      ∧ (s.panel.frame = none → exec .panelLineStart s = .next s ∧ exec .scanEnd s = .next s ∧ exec .trailEnd s = .next s)
      ∧ ((∀ e, s.panel.phase ≠ .switching e) → ∀ o, exec (.switchEnd o) s = .next s)

/-! ### Reset and start-up -/

/-- What the manual states of the part after an external reset, block by block (R18, R43, R45, R87, R105, R106, R122, R145,
R156, R170, R176). The paused rest timer holds 0 (log 29). -/
def Obligations.ResetHoldsTheManualsValues : Prop :=
  (State.reset.mon.state = .noSignal ∧ State.reset.mon.obs.width = 0 ∧ State.reset.mon.obs.height = 0
      ∧ State.reset.mon.obs.format = .full ∧ State.reset.mon.obs.depth = .d8 ∧ State.reset.mon.obs.ls = 0
      ∧ State.reset.mon.obs.slead = 0 ∧ State.reset.mon.obs.vrr = false ∧ State.reset.mon.obs.game = false
      ∧ State.reset.mon.obs.outOfRange = false ∧ State.reset.mon.obs.sinceSettle = 0 ∧ State.reset.mon.periods = []
      ∧ State.reset.mon.lossLatch = false ∧ State.reset.mon.lastStart = none ∧ State.reset.mon.timer = none)
    ∧ (State.reset.cat.length = 48
      ∧ ∀ i < 48, (recordAt State.reset i).state = .free ∧ (recordAt State.reset i).locked = false
        ∧ (recordAt State.reset i).content = none ∧ (recordAt State.reset i).fit = .untested
        ∧ (recordAt State.reset i).stats = { activations := 0, presented := 0, skipped := 0, overrate := 0, collisions := 0,
                                             predicted := 0, forced := 0, worstLag := 0, underrun := 0, overflow := 0 })
    ∧ State.reset.plan = none
    ∧ (State.reset.pacer.state = .standby ∧ State.reset.pacer.last = none ∧ State.reset.pacer.lastLive = none
      ∧ State.reset.pacer.lastInterval = none ∧ State.reset.pacer.lastLag = none ∧ State.reset.pacer.pending = none
      ∧ State.reset.pacer.schedule = [] ∧ State.reset.pacer.deadline = none ∧ State.reset.pacer.tracking = .noSwitch
      ∧ State.reset.pacer.holdTimer = .stopped ∧ State.reset.pacer.restTimer = .paused 0
      ∧ State.reset.pacer.holdTime = 5 ∧ State.reset.pacer.restTime = 0
      ∧ State.reset.pacer.wakeOnSource = true)
    ∧ (State.reset.store.slots.length = 128 ∧ (∀ x ∈ State.reset.store.slots, x.state = .free)
      ∧ State.reset.store.entries = [])
    ∧ (State.reset.panel.profiles.length = 4 ∧ (∀ p ∈ State.reset.panel.profiles, p = Profile.invalid)
      ∧ State.reset.panel.current = none ∧ State.reset.panel.state = .idle ∧ State.reset.panel.phase = .noSwitch
      ∧ State.reset.panel.stopPending = false ∧ State.reset.panel.frame = none ∧ State.reset.panel.fill = ⟨0, 0, 0⟩)
    ∧ (State.reset.overlay.windows.length = 16
      ∧ (∀ w ∈ State.reset.overlay.windows, w.state = .free ∧ w.definition = none ∧ w.text = [] ∧ w.launches = 0
          ∧ w.dropped = 0)
      ∧ State.reset.overlay.writePtr = 0 ∧ ∀ a, imageRead a State.reset.overlay.image = 0#8)
    ∧ (State.reset.stage.edits = [] ∧ State.reset.stage.groupOpen = false)
    ∧ (State.reset.ctl.phase = .starting ∧ State.reset.ctl.requests = [] ∧ State.reset.ctl.processing = none
      ∧ State.reset.ctl.replies = [] ∧ State.reset.ctl.txn = none ∧ State.reset.ctl.heldOff = true
      ∧ State.reset.ctl.partResets = 0 ∧ sdoPin State.reset.ctl = none)
    ∧ flagWord State.reset = 0#16 ∧ State.reset.ev.mask = 0#16

/-- EXTERNAL_RESET returns every block to its reset value. Kept are the clock and the queue, which are the model's (log 1,
log 4), and the bytes of image memory, which start-up clears (log 7). Transactions are held off while CS_N is low.
STARTUP_COMPLETE in STARTING: image memory reads 0 everywhere and the port is READY; nothing else changes, and in READY
nothing at all. CS_N_SEEN_HIGH ends the hold-off and changes nothing else (R157, R162, R170). -/
def Obligations.ResetAndStartUp : Prop :=
  ∀ (t : Nat) (s : State),
    (∀ csLow : Bool, ∃ s', exec (.externalReset t csLow) s = .next s'
      ∧ s'.now = max s.now t ∧ s'.pending = s.pending
      ∧ s'.mon = State.reset.mon ∧ s'.cat = State.reset.cat ∧ s'.plan = none ∧ s'.pacer = State.reset.pacer
      ∧ s'.store = State.reset.store ∧ s'.panel = State.reset.panel ∧ s'.overlay.windows = State.reset.overlay.windows
      ∧ s'.overlay.writePtr = 0 ∧ s'.overlay.image = s.overlay.image ∧ s'.stage = State.reset.stage
      ∧ s'.ctl = { State.reset.ctl with heldOff := csLow } ∧ s'.ev = State.reset.ev)
    ∧ (s.ctl.phase = .starting → ∃ s', exec (.startupComplete t) s = .next s'
      ∧ (∀ a, imageRead a s'.overlay.image = 0#8)
      ∧ s' = { s with
          now := max s.now t
          overlay := { s.overlay with image := s'.overlay.image }
          ctl := { s.ctl with phase := .ready } })
    ∧ (s.ctl.phase = .ready → exec (.startupComplete t) s = .next (atTime t s))
    ∧ exec (.csnSeenHigh t) s = .next { s with now := max s.now t, ctl := { s.ctl with heldOff := false } }

/-! ### Transactions -/

/-- A transaction on the wires (R157, R158, R166). The fall of CS_N, outside a transaction and with no hold-off, takes the
snapshot, chooses the oldest reply and puts the first bit on SDO, and nothing else changes; held off, or inside a transaction,
nothing changes. Outside a transaction edges of SCK and a rise of CS_N do nothing, and SDO is at high impedance. In one, SDI's
levels are gathered at the rising edges until a byte is complete; a falling edge puts the next bit of the byte being sent on
SDO, most significant first, and changes nothing else, and between falling edges SDO keeps its level. A period of SCK is its
rising and then its falling edge, and a run of periods does what its parts do one after the other. The clock is the model's
(log 1); that the row does not matter is log 36. -/
def Obligations.FallOfCsnTakesSnapshot : Prop :=
  (∀ (t : Nat) (s : State), ∀ c ∈ wireRows t .fall,
    (s.ctl.heldOff = false → s.ctl.txn = none →
      exec c s = .next (withTxn
        { status0 := (snapshot s).1, status1 := (snapshot s).2, chosen := s.ctl.replies.head?,
          chosenHeld := s.ctl.replies.head?.isSome, bits := [], received := [], finding := .undecided,
          drive := (snapshot s).1.getLsbD 7 } (atTime t s)))
    ∧ (s.ctl.heldOff = true ∨ s.ctl.txn ≠ none → exec c s = .next (atTime t s)))
  ∧ (∀ (t : Nat) (s : State) (b : Bool) (sdi : List Bool), s.ctl.txn = none →
    ∀ ev ∈ [WireEvent.sckRise b, .sckFall, .clocks sdi, .rise], ∀ c ∈ wireRows t ev, exec c s = .next (atTime t s))
  ∧ (∀ (t : Nat) (s : State) (x : Txn), s.ctl.txn = some x →
    (∀ b, x.bits.length + 1 < 8 → ∀ c ∈ wireRows t (.sckRise b),
      exec c s = .next (withTxn { x with bits := x.bits ++ [b] } (atTime t s)))
    ∧ (x.bits.length < 8 → ∀ c ∈ wireRows t .sckFall, exec c s = .next (withTxn (shown x) (atTime t s)))
    ∧ (∀ sdi, sdi ≠ [] → x.bits.length + sdi.length < 8 → ∀ c ∈ wireRows t (.clocks sdi),
      exec c s = .next (withTxn (shown { x with bits := x.bits ++ sdi }) (atTime t s))))
  ∧ (∀ (t : Nat) (s : State) (b : Bool), ∀ c ∈ wireRows t (.sckRise b),
    ∃ s', exec c s = .next s' ∧ sdoPin s'.ctl = sdoPin s.ctl
      ∧ ∀ d ∈ wireRows t (.clocks [b]), exec d s = exec (.post t .sckFall) s')
  ∧ (∀ (t : Nat) (s : State) (a b : List Bool), ∀ c ∈ wireRows t (.clocks a),
    ∃ s', exec c s = .next s' ∧ ∀ d ∈ wireRows t (.clocks (a ++ b)), exec d s = exec (.post t (.clocks b)) s')
  ∧ ∀ s : State, (s.ctl.txn = none → sdoPin s.ctl = none) ∧ ∀ x, s.ctl.txn = some x → sdoPin s.ctl = some x.drive

/-- A POST's completion (R157, R159, R160): the byte completed on SDI is the last of the kind 01h, the code, the parameter
length and that many parameters. It is refused with 04h in STARTING, refused with 02h at a capacity in use of 8 or more, and
accepted with 01h otherwise. An accepted request joins the tail of the queue and enters processing at once when the queue is
empty and no request is in processing; nothing else changes. The clock is the model's (log 1), and so is the row (log 36). -/
def Obligations.PostCompletionDecides : Prop :=
  ∀ (t : Nat) (s : State) (x : Txn) (sdi : List Bool) (v code : Byte) (ps : List Byte),
    s.ctl.txn = some x → x.finding = .undecided → Completes x sdi v → ps.length ≤ 96 →
    x.received ++ [v] = [0x01#8, code, BitVec.ofNat 8 ps.length] ++ ps →
    ∀ c ∈ wireRows t (.clocks sdi),
      (s.ctl.phase = .starting →
        exec c s = .next (withTxn (grown x v (.decided ps.length 0x04#8)) (atTime t s)))
      ∧ (s.ctl.phase = .ready →
          8 ≤ s.ctl.requests.length + (if s.ctl.processing.isSome then 1 else 0) + s.ctl.replies.length →
        exec c s = .next (withTxn (grown x v (.decided ps.length 0x02#8)) (atTime t s)))
      ∧ (s.ctl.phase = .ready →
          s.ctl.requests.length + (if s.ctl.processing.isSome then 1 else 0) + s.ctl.replies.length < 8 →
        ∃ s', exec c s = .next s'
          ∧ s' = { s with
              now := max s.now t
              ctl := { s.ctl with
                txn := some (grown x v (.decided ps.length 0x01#8))
                requests := s'.ctl.requests
                processing := s'.ctl.processing } }
          ∧ (s.ctl.processing = none → s.ctl.requests = [] →
              s'.ctl.processing = some ⟨code, ps⟩ ∧ s'.ctl.requests = [])
          ∧ (s.ctl.processing ≠ none →
              s'.ctl.processing = s.ctl.processing ∧ s'.ctl.requests = s.ctl.requests ++ [⟨code, ps⟩]))

/-- The rise of CS_N that ends a POST, byte 1 being 01h (R157, R159, R160, R161): the bits sent are the status bytes, 00h up to
the accept byte as byte 4 + n, and 00h after it; a POST cut short after byte 1 sets PORT_ERROR, and nothing else changes. A
transaction cut short before byte 1 is complete has no effect. The clock is the model's (log 1), and so is the row (log 36). -/
def Obligations.PostEnds : Prop :=
  ∀ (t : Nat) (s : State) (x : Txn), s.ctl.txn = some x → ∀ c ∈ wireRows t .rise,
    (∀ n accept, x.received.head? = some 0x01#8 → x.finding = .decided n accept →
      exec c s = .next (txnOver
        ([x.status0, x.status1] ++ List.replicate (n + 1) 0x00#8 ++ [accept] ++ zeros (edges x)) x (atTime t s)))
    ∧ (x.received.head? = some 0x01#8 → x.finding = .undecided →
      exec c s = .next (portErrorSet (txnOver ([x.status0, x.status1] ++ zeros (edges x)) x (atTime t s))))
    ∧ (x.received = [] → x.bits.length < 8 → exec c s = .next (txnOver [x.status0] x (atTime t s)))

/-- A malformed transaction (R159, R161): an unknown kind is found as byte 1 completes and answered 03h from byte 3; a length
above 96 is found as byte 3 of a POST completes and answered 03h from byte 4. Each sets PORT_ERROR once and enters no request:
further bytes are ignored, and the rise adds nothing. The clock is the model's (log 1), and so is the row (log 36). -/
def Obligations.MalformedTransactions : Prop :=
  ∀ (t : Nat) (s : State) (x : Txn), s.ctl.txn = some x →
    (∀ (sdi : List Bool) (v : Byte), Completes x sdi v → ∀ c ∈ wireRows t (.clocks sdi),
      (x.finding = .undecided → x.received = [] → v ≠ 0x01#8 → v ≠ 0x02#8 → v ≠ 0x03#8 →
        exec c s = .next (portErrorSet (withTxn (grown x v (.malformed 3)) (atTime t s))))
      ∧ (∀ code, x.finding = .undecided → x.received = [0x01#8, code] → 96 < v.toNat →
        exec c s = .next (portErrorSet (withTxn (grown x v (.malformed 4)) (atTime t s))))
      ∧ (∀ n, x.finding = .malformed n → exec c s = .next (withTxn (grown x v (.malformed n)) (atTime t s))))
    ∧ ∀ c ∈ wireRows t .rise,
      (∀ kind, x.finding = .malformed 3 → x.received.head? = some kind → kind ≠ 0x01#8 → kind ≠ 0x02#8 → kind ≠ 0x03#8 →
        exec c s
          = .next (txnOver ([x.status0, x.status1] ++ List.replicate (edges x) 0x03#8) x (atTime t s)))
      ∧ (x.finding = .malformed 4 → x.received.head? = some 0x01#8 →
        exec c s
          = .next (txnOver ([x.status0, x.status1, 0x00#8] ++ List.replicate (edges x) 0x03#8) x (atTime t s)))

/-- A FETCH, byte 1 being 02h (R166): its further bytes do nothing, and at the rise of CS_N the chosen reply's code, status,
length and data have been sent from byte 3, the empty reply when none was chosen, and 00h after it. The reply is removed exactly
when its last byte, byte 5 + m, was complete and it is still in the queue. A STATUS ONLY transaction, byte 1 being 03h (R159):
00h after the two status bytes, and no effect. The clock is the model's (log 1), and so is the row (log 36). -/
def Obligations.FetchAndStatusOnlyEnd : Prop :=
  ∀ (t : Nat) (s : State) (x : Txn), s.ctl.txn = some x → x.finding = .undecided →
    (∀ (sdi : List Bool) (v : Byte), Completes x sdi v → ∀ c ∈ wireRows t (.clocks sdi),
      x.received.head? = some 0x02#8 ∨ x.received.head? = some 0x03#8
          ∨ (x.received = [] ∧ v ∈ [0x01#8, 0x02#8, 0x03#8]) ∨ (x.received = [0x01#8]) →
        exec c s = .next (withTxn (grown x v .undecided) (atTime t s)))
    ∧ ∀ c ∈ wireRows t .rise,
      (x.received.head? = some 0x02#8 →
        (∀ r, x.chosen = some r → x.chosenHeld = true → 5 + r.data.length ≤ x.received.length →
          exec c s
            = .next (txnOver ([x.status0, x.status1, r.code, r.status.code, BitVec.ofNat 8 r.data.length] ++ r.data
                  ++ zeros (edges x)) x
                { s with now := max s.now t, ctl := { s.ctl with replies := s.ctl.replies.tail } }))
        ∧ (∀ r, x.chosen = some r → x.chosenHeld = false ∨ x.received.length < 5 + r.data.length →
          exec c s
            = .next (txnOver ([x.status0, x.status1, r.code, r.status.code, BitVec.ofNat 8 r.data.length] ++ r.data
                  ++ zeros (edges x)) x (atTime t s)))
        ∧ (x.chosen = none →
          exec c s
            = .next (txnOver ([x.status0, x.status1, 0x00#8, 0xFF#8, 0x00#8] ++ zeros (edges x)) x (atTime t s))))
      ∧ (x.received.head? = some 0x03#8 →
        exec c s = .next (txnOver ([x.status0, x.status1] ++ zeros (edges x)) x (atTime t s)))

/-! ### The requests of the control port and the Event Unit -/

/-- A request whose code the summary table does not hold is answered BAD_CODE by the port (R164). IDENTIFY reports what the
part is (R168, R181): G, X, 2, 8, revision 1, the sizes, and the part resets. The clock is the model's (log 1). -/
def Obligations.UnknownCodeAndIdentify : Prop :=
  ∀ (t : Nat) (s : State) (ps : List Byte),
    (∀ code, Serving s code ps → code ∉ (requestCommands t).map Prod.snd →
      exec (.unknownCode t) s = .next (refused code .badCode ps t s))
    ∧ (Serving s 0x11#8 ps →
      (ps.length ≠ 0 → exec (.identify t) s = .next (refused 0x11#8 .badLength ps t s))
      ∧ (ps = [] → exec (.identify t) s = .next (replied 0x11#8 .ok
          ([0x47#8, 0x58#8, 0x32#8, 0x38#8, 1#8, 48#8, 16#8, 128#8, 128#8, 8#8, 16#8, 96#8] ++ be 2 s.ctl.partResets)
          (atTime t s))))

/-- ECHO returns its parameters, of every length and value, and changes nothing else (R167). Where the clock then stands
is left open. -/
def Obligations.EchoReturnsItsParameters : Prop :=
  ∀ (t : Nat) (s : State) (ps : List Byte), Serving s 0x10#8 ps → OnlyReplies (.echo t) s 0x10#8 .ok ps

/-- EVENT_MASK's checks in order, and its effect (R175): the mask gains the flags of the set field and loses those of the
clear field; the flags stand; the reply gives the mask after the change. The clock is the model's (log 1). -/
def Obligations.EventMaskSetsTheMask : Prop :=
  ∀ (t : Nat) (s : State) (ps : List Byte), Serving s 0x16#8 ps →
    let on := BitVec.ofNat 16 (field ps 0 2)
    let off := BitVec.ofNat 16 (field ps 2 2)
    (ps.length ≠ 4 → exec (.eventMask t) s = .next (refused 0x16#8 .badLength ps t s))
    ∧ (ps.length = 4 → (∃ i, 14 ≤ i ∧ (on.getLsbD i = true ∨ off.getLsbD i = true)) →
        exec (.eventMask t) s = .next (refused 0x16#8 .badValue ps t s))
    ∧ (ps.length = 4 → (∃ i, on.getLsbD i = true ∧ off.getLsbD i = true) →
        exec (.eventMask t) s = .next (refused 0x16#8 .badValue ps t s))
    ∧ (ps.length = 4 → (∀ i, 14 ≤ i → on.getLsbD i = false ∧ off.getLsbD i = false) →
        (∀ i, ¬(on.getLsbD i = true ∧ off.getLsbD i = true)) →
        ∃ m : BitVec 16, (∀ i, m.getLsbD i = ((s.ev.mask.getLsbD i || on.getLsbD i) && !off.getLsbD i))
          ∧ exec (.eventMask t) s = .next (replied 0x16#8 .ok (be 2 m.toNat)
              { s with now := max s.now t, ev := { s.ev with mask := m } }))

/-- EVENT_READ (R174): EMPTY, with no data, when no flag but REPLY is set; otherwise the fourteen flags, REPLY as the reply
queue stood, and the mask, after which every flag but REPLY is clear. The clock is the model's (log 1). -/
def Obligations.EventReadReportsAndClears : Prop :=
  ∀ (t : Nat) (s : State) (ps : List Byte), Serving s 0x17#8 ps →
    (ps.length ≠ 0 → exec (.eventRead t) s = .next (refused 0x17#8 .badLength ps t s))
    ∧ (ps = [] → (∀ i, 1 ≤ i → s.ev.flags.getLsbD i = false) →
        exec (.eventRead t) s = .next (replied 0x17#8 .empty [] (atTime t s)))
    ∧ (ps = [] → (∃ i, 1 ≤ i ∧ s.ev.flags.getLsbD i = true) →
        ∃ f : BitVec 16, f.getLsbD 0 = !s.ctl.replies.isEmpty ∧ (∀ i, 1 ≤ i → f.getLsbD i = s.ev.flags.getLsbD i)
          ∧ exec (.eventRead t) s = .next (replied 0x17#8 .ok (be 2 f.toNat ++ be 2 s.ev.mask.toNat)
              { s with now := max s.now t, ev := { s.ev with flags := 0#16 } }))

/-- GROUP_OPEN (R154): refused with parameters or with a group open (where both hold, the first: log 40); otherwise the flag
is set, the edits stay, and the reply gives their number. With a group open every application point passes, and so does an
acceptance, in every pacer state. Where the clock then stands is left open. -/
def Obligations.GroupOpenHoldsTheStage : Prop :=
  (∀ (t : Nat) (s : State) (ps : List Byte), Serving s 0x18#8 ps →
    (ps.length ≠ 0 → OnlyReplies (.groupOpen t) s 0x18#8 .badLength (ps.take 8))
    ∧ (ps = [] → s.stage.groupOpen = true → OnlyReplies (.groupOpen t) s 0x18#8 .wrongState (ps.take 8))
    ∧ (ps = [] → s.stage.groupOpen = false →
        ∃ n, exec (.groupOpen t) s = .next (replied 0x18#8 .ok (be 1 s.stage.edits.length)
          { s with now := n, stage := { s.stage with groupOpen := true } })))
  ∧ ∀ s : State, s.stage.groupOpen = true →
    applicationPoint s = s
      ∧ ∀ e, acceptEdit e s = { s with stage := { s.stage with edits := s.stage.edits ++ [e] } }

/-- GROUP_CLOSE (R155): refused with parameters or with no group open (where both hold, the first: log 40). In LIVE, FREE_RUN
and HOLD it clears the flag and applies nothing; in STANDBY and REST the list, when it is not empty, is applied at once. The
reply gives the edits held and the edits applied. The clock is the model's (log 1). -/
def Obligations.GroupCloseReleasesTheStage : Prop :=
  ∀ (t : Nat) (s : State) (ps : List Byte), Serving s 0x19#8 ps →
    let closed : State := { s with now := max s.now t, stage := { s.stage with groupOpen := false } }
    let held := be 1 s.stage.edits.length
    (ps.length ≠ 0 → exec (.groupClose t) s = .next (refused 0x19#8 .badLength ps t s))
    ∧ (ps = [] → s.stage.groupOpen = false → exec (.groupClose t) s = .next (refused 0x19#8 .wrongState ps t s))
    ∧ (ps = [] → s.stage.groupOpen = true → s.pacer.state ∈ [.live, .freeRun, .hold] →
        exec (.groupClose t) s = .next (replied 0x19#8 .ok (held ++ [0x00#8]) closed))
    ∧ (ps = [] → s.stage.groupOpen = true → s.pacer.state ∈ [.standby, .rest] →
        exec (.groupClose t) s = .next (replied 0x19#8 .ok (held ++ held)
          (settlePacer (if s.stage.edits = [] then closed else applyList s.stage.edits closed))))

/-- RESET_PART (R169): refused with parameters. Otherwise the port discards its queued requests and its replies and answers
their numbers; every block returns its running state to its starting point and keeps its stored configuration: the monitor
(R18), the catalogue (R44), the plan (R45), the pacer (R87), with the rest timer loaded when REST is left (R80), the line store (R105), the panel port, which is asked to stop
(R122), the windows, their texts latched from the values after the reset (R145), the stage (R156), the Event Unit (R176). The
clock is the model's (log 1). -/
def Obligations.ResetPartReturnsRunningState : Prop :=
  ∀ (t : Nat) (s : State) (ps : List Byte), Serving s 0x15#8 ps →
    (ps.length ≠ 0 → exec (.resetPart t) s = .next (refused 0x15#8 .badLength ps t s))
    ∧ (ps = [] → ∃ s', exec (.resetPart t) s = .next s' ∧ s'.now = max s.now t
      ∧ s'.ctl = { s.ctl with
          requests := []
          processing := none
          replies := [⟨0x15#8, .ok, be 1 s.ctl.requests.length ++ be 1 s.ctl.replies.length⟩]
          txn := s.ctl.txn.map fun x => { x with chosenHeld := false }
          partResets := min 65535 (s.ctl.partResets + 1) }
      ∧ s'.mon = State.reset.mon
      ∧ s'.cat = s.cat.map (fun r =>
          { r with state := if r.state = .active then .ready else r.state, fit := .untested, stats := .zero })
      ∧ s'.plan = none
      ∧ (s'.pacer.state = .standby ∧ s'.pacer.pending = none ∧ s'.pacer.schedule = [] ∧ s'.pacer.deadline = none
        ∧ s'.pacer.holdTimer = .stopped ∧ s'.pacer.restTimer = restOnStop (max s.now t) s.pacer
        ∧ s'.pacer.last = s.pacer.last
        ∧ s'.pacer.lastLive = none ∧ s'.pacer.lastInterval = none ∧ s'.pacer.lastLag = none
        ∧ s'.pacer.holdTime = s.pacer.holdTime ∧ s'.pacer.restTime = s.pacer.restTime
        ∧ s'.pacer.wakeOnSource = s.pacer.wakeOnSource)
      ∧ s'.store = State.reset.store
      ∧ s'.panel = (portStop (atTime t s)).panel ∧ s'.pacer.tracking = (portStop (atTime t s)).pacer.tracking
      ∧ (s'.overlay.image = s.overlay.image ∧ s'.overlay.writePtr = 0
        ∧ s'.overlay.windows = s.overlay.windows.map fun w =>
            { w with
              state := if w.state = .shown then .hidden else w.state
              dropped := 0
              text := (w.definition.map fun d => textOf s' d.kind).getD w.text
              launches := if w.definition.isSome then 0 else w.launches })
      ∧ s'.stage = State.reset.stage ∧ s'.ev = { s.ev with flags := 0#16 })

/-! ### The requests of the pacer and the monitor -/

/-- START's refusals in order (R83), and its effect with the monitor not SETTLED: FREE_RUN, the rest timer loaded, and a
periodic GENERATED launch at the latest of now, L_last + FR and e. When the named profile is not the current one the port
is asked to switch first, and with a switch pending or in progress no launch is scheduled (R66, R78, R80). With the monitor
SETTLED a lookup follows (R32). The deadline is armed as R64 says, but not before e (log 41). The clock is the model's (log 1). -/
def Obligations.StartEntersFreeRun : Prop :=
  ∀ (t : Nat) (s : State) (ps : List Byte), Serving s 0x12#8 ps →
    let p := firstByte ps
    (ps.length ≠ 1 → exec (.start t) s = .next (refused 0x12#8 .badLength ps t s))
    ∧ (ps.length = 1 → 3 < p → exec (.start t) s = .next (refused 0x12#8 .badIndex ps t s))
    ∧ (ps.length = 1 → p ≤ 3 → s.pacer.state ≠ .standby →
        exec (.start t) s = .next (refused 0x12#8 .wrongState ps t s))
    ∧ (ps.length = 1 → p ≤ 3 → s.pacer.state = .standby → (profileAt s p).valid = false →
        exec (.start t) s = .next (refused 0x12#8 .badValue ps t s))
    ∧ (ps.length = 1 → p ≤ 3 → s.pacer.state = .standby → (profileAt s p).valid = true → s.mon.state ≠ .settled →
        let s1 := if s.panel.current = some p then atTime t s else requestSwitch p (atTime t s)
        ∃ s', exec (.start t) s = .next (replied 0x12#8 .ok [] s')
          ∧ s' = { s1 with pacer := { s1.pacer with
              state := .freeRun
              schedule := s'.pacer.schedule
              restTimer := s'.pacer.restTimer
              deadline := s'.pacer.deadline } }
          ∧ s'.pacer.schedule = (if s1.pacer.tracking = .noSwitch then
              [{ time := match s1.pacer.last with
                  | none => s1.now
                  | some l => max s1.now (max (l.time + (currentProfile s1).fr) (l.time + l.spacing)),
                 reason := .periodic, kind := .generated }] else [])
          ∧ s'.pacer.restTimer = (if s.pacer.restTime = 0 then .stopped
              else if s.mon.state = .noSignal then .running (s1.now + s.pacer.restTime * 10000000)
              else .paused (s.pacer.restTime * 10000000))
          ∧ s'.pacer.deadline = armedDeadline s')
    ∧ (ps.length = 1 → p ≤ 3 → s.pacer.state = .standby → (profileAt s p).valid = true → s.mon.state = .settled →
        exec (.start t) s = .next (replied 0x12#8 .ok []
          (settlePacer (requestLookup (enterFreeRun (loadRest
            (if s.panel.current = some p then atTime t s else requestSwitch p (atTime t s))))))))

/-- STANDBY (R82): refused with parameters. In STANDBY it changes nothing. From FREE_RUN, HOLD and REST the pacer enters
STANDBY with the schedule empty, no deadline, the hold timer stopped and the rest timer paused with what remains, or loaded when
REST is left (R80), and the port is asked to stop (R120); from LIVE the ACTIVE record is deactivated first (R36, R77). The last launch and the settings are kept. The reply
gives the state found. The clock is the model's (log 1). -/
def Obligations.StandbyStopsThePanel : Prop :=
  ∀ (t : Nat) (s : State) (ps : List Byte), Serving s 0x13#8 ps →
    (ps.length ≠ 0 → exec (.standby t) s = .next (refused 0x13#8 .badLength ps t s))
    ∧ (ps = [] → s.pacer.state = .standby → exec (.standby t) s = .next (replied 0x13#8 .ok [0x00#8] (atTime t s)))
    ∧ (ps = [] → s.pacer.state ≠ .standby →
        let s1 := if s.pacer.state = .live then withdrawActive (atTime t s) else atTime t s
        let s2 := portStop s1
        ∃ s', exec (.standby t) s = .next (replied 0x13#8 .ok [BitVec.ofNat 8 s.pacer.state.code] s')
          ∧ s' = { s2 with pacer := { s2.pacer with
              state := .standby, schedule := [], deadline := none, holdTimer := .stopped
              restTimer := s'.pacer.restTimer } }
          ∧ s'.pacer.restTimer = restOnStop (max s.now t) s.pacer
          ∧ s'.pacer.last = s.pacer.last ∧ s'.pacer.holdTime = s.pacer.holdTime
          ∧ s'.pacer.restTime = s.pacer.restTime ∧ s'.pacer.wakeOnSource = s.pacer.wakeOnSource)

/-- WAKE's refusals (R84), in the order they are listed (log 40), and its effect with the monitor not SETTLED: FREE_RUN, the
rest timer loaded, and a periodic GENERATED launch at the latest of now, L_last + FR and e, or none while a switch is pending
or in progress (R81, R66). With the monitor SETTLED a lookup follows (R32). The deadline is armed as R64 says, but not before
e (log 41). The clock is the model's (log 1). -/
def Obligations.WakeLeavesRest : Prop :=
  ∀ (t : Nat) (s : State) (ps : List Byte), Serving s 0x14#8 ps →
    (ps.length ≠ 0 → exec (.wake t) s = .next (refused 0x14#8 .badLength ps t s))
    ∧ (ps = [] → s.pacer.state ≠ .rest → exec (.wake t) s = .next (refused 0x14#8 .wrongState ps t s))
    ∧ (ps = [] → s.pacer.state = .rest → (currentProfile s).valid = false →
        exec (.wake t) s = .next (refused 0x14#8 .wrongState ps t s))
    ∧ (ps = [] → s.pacer.state = .rest → (currentProfile s).valid = true → s.mon.state ≠ .settled →
        let s1 := atTime t s
        ∃ s', exec (.wake t) s = .next (replied 0x14#8 .ok [] s')
          ∧ s' = { s1 with pacer := { s.pacer with
              state := .freeRun
              schedule := s'.pacer.schedule
              restTimer := s'.pacer.restTimer
              deadline := s'.pacer.deadline } }
          ∧ s'.pacer.schedule = (if s.pacer.tracking = .noSwitch then
              [{ time := match s.pacer.last with
                  | none => s1.now
                  | some l => max s1.now (max (l.time + (currentProfile s).fr) (l.time + l.spacing)),
                 reason := .periodic, kind := .generated }] else [])
          ∧ s'.pacer.restTimer = (if s.pacer.restTime = 0 then .stopped
              else if s.mon.state = .noSignal then .running (s1.now + s.pacer.restTime * 10000000)
              else .paused (s.pacer.restTime * 10000000))
          ∧ s'.pacer.deadline = armedDeadline s')
    ∧ (ps = [] → s.pacer.state = .rest → (currentProfile s).valid = true → s.mon.state = .settled →
        exec (.wake t) s = .next (replied 0x14#8 .ok []
          (settlePacer (requestLookup (enterFreeRun (loadRest (atTime t s)))))))

/-- SET_TIMERS (R85): its refusals, in the order they are listed (log 40); otherwise the three settings are written, a running
hold timer keeps its time, the rest timer is loaded with the new rest time at once, and stopped when that is 0. The reply
gives the settings. The clock is the model's (log 1). -/
def Obligations.SetTimersWritesTheSettings : Prop :=
  ∀ (t : Nat) (s : State) (ps : List Byte), Serving s 0x42#8 ps →
    let hold := field ps 0 1
    let rest := field ps 1 2
    (ps.length ≠ 4 → exec (.setTimers t) s = .next (refused 0x42#8 .badLength ps t s))
    ∧ (ps.length = 4 → 1 < field ps 3 1 → exec (.setTimers t) s = .next (refused 0x42#8 .badValue ps t s))
    ∧ (ps.length = 4 → field ps 3 1 ≤ 1 →
        ∃ s', exec (.setTimers t) s = .next (replied 0x42#8 .ok ps s')
          ∧ s' = { s with
              now := max s.now t
              pacer := { s.pacer with
                holdTime := hold, restTime := rest, wakeOnSource := field ps 3 1 == 1
                restTimer := s'.pacer.restTimer, deadline := s'.pacer.deadline } }
          ∧ s'.pacer.restTimer = (if rest = 0 then .stopped
              else if s.pacer.state = .freeRun ∧ s.mon.state = .noSignal then .running (max s.now t + rest * 10000000)
              else .paused (rest * 10000000))
          ∧ s'.pacer.deadline = armedDeadline s')

/-- PACING_READ (R86, R181) completes with the pacer's 53 bytes as they stand at the processing, and changes nothing: the state,
the tracking, the settings, the two timers in tenths of a second rounded up, the last launch and the ticks since it, the
validity bits, the last interval and lag, the pending launch, the schedule, the deadline, and the plan in force. An absent
value is 0. A pending frame with A = 0 has class byte 0 (log 11). The clock is the model's (log 1). -/
def Obligations.PacingReadReportsThePacer : Prop :=
  ∀ (t : Nat) (s : State) (ps : List Byte), Serving s 0x51#8 ps →
    let now := max s.now t
    let p := s.pacer
    let tenths := fun (x : Timer) => be 2 (((match x with
      | .stopped => 0
      | .paused left => left
      | .running e => e - now) + 9999999) / 10000000)
    let bit := fun (set : Bool) (weight : Nat) => if set then weight else 0
    let data := be 1 p.state.code ++ be 1 p.tracking.code ++ be 1 p.holdTime ++ be 2 p.restTime
      ++ [if p.wakeOnSource then 1#8 else 0#8] ++ tenths p.holdTimer ++ tenths p.restTimer
      ++ [match p.last with
          | none => 0#8
          | some l => BitVec.ofNat 8
            ((match l.kind with
              | .live => 1
              | .generated => 2
              | .redraw => 3)
            + 16 * (match l.reason with
              | .live => 1
              | .predicted => 2
              | .periodic => 3
              | .forced => 4))]
      ++ be 4 (match p.last with
          | none => 0
          | some l => now - l.time)
      ++ [BitVec.ofNat 8 (bit p.lastInterval.isSome 1 + bit p.lastLag.isSome 2 + bit p.pending.isSome 4
          + bit p.deadline.isSome 8 + bit s.plan.isSome 16)]
      ++ be 4 (p.lastInterval.getD 0) ++ be 3 (p.lastLag.getD 0)
      ++ (match p.pending with
          | none => [0#8, 0#8, 0#8, 0#8]
          | some x => be 3 x.lag ++ [if x.cls = some .collision then 1#8 else 0#8])
      ++ be 1 p.schedule.length
      ++ be 4 (match p.schedule with
          | [] => 0
          | x :: _ => x.time - now)
      ++ be 4 (match p.deadline with
          | none => 0
          | some d => d - now)
      ++ (match s.plan with
          | none => List.replicate 17 0#8
          | some q => be 1 q.slot ++ be 4 q.w ++ beSigned q.de ++ be 4 q.tmin ++ be 3 q.limit
              ++ [if q.predict then 1#8 else 0#8])
    (ps.length ≠ 0 → exec (.pacingRead t) s = .next (refused 0x51#8 .badLength ps t s))
    ∧ (ps = [] → exec (.pacingRead t) s = .next (replied 0x51#8 .ok data (atTime t s)))
    ∧ data.length = 53 ∧ FieldRules

/-- OBSERVE (R17, R181) reports the observation, the loss latch, the period list and the estimate, and clears the loss latch.
The codes of vrr are those of the KEY section (log 10). The clock is the model's (log 1). -/
def Obligations.ObserveReportsTheSource : Prop :=
  ∀ (t : Nat) (s : State) (ps : List Byte), Serving s 0x50#8 ps →
    (ps.length ≠ 0 → exec (.observe t) s = .next (refused 0x50#8 .badLength ps t s))
    ∧ (ps = [] → exec (.observe t) s = .next (replied 0x50#8 .ok
        (be 1 s.mon.state.code ++ be 2 s.mon.obs.width ++ be 2 s.mon.obs.height
          ++ [if s.mon.obs.format = .full then 1#8 else 2#8, if s.mon.obs.depth = .d8 then 1#8 else 2#8]
          ++ be 4 s.mon.obs.ls ++ be 4 s.mon.obs.slead
          ++ [if s.mon.obs.vrr then 2#8 else 1#8, if s.mon.obs.game then 1#8 else 0#8,
              if s.mon.obs.outOfRange then 1#8 else 0#8]
          ++ be 2 s.mon.obs.sinceSettle ++ [if s.mon.lossLatch then 1#8 else 0#8] ++ be 1 s.mon.periods.length
          ++ s.mon.periods.flatMap (be 4)
          ++ be 4 (if s.mon.periods = [] then 0 else s.mon.periods.sum / s.mon.periods.length))
        { s with now := max s.now t, mon := { s.mon with lossLatch := false } }))

/-! ### The requests of the catalogue -/

/-- CAT_STORE's checks in order (R23): the length, the slot, the chain, the lock, the stage. Otherwise the checked content is
staged for the slot, and the reply gives the unknown sections skipped. CAT_RETIRE's checks in order (R24): the length, the
slot, the lock, the stage; otherwise the slot's retirement is staged, whatever its state. The chain is accepted, clamped, given
its defaults and refused as R19 to R22 say; of one section the length is checked before a repeated tag (log 31). The clock is
the model's (log 1). -/
def Obligations.CatStoreAndRetireStageEdits : Prop :=
  (∀ (t : Nat) (s : State) (ps : List Byte),
    let slot := firstByte ps
    (Serving s 0x20#8 ps →
      (ps = [] → exec (.catStore t) s = .next (refused 0x20#8 .badLength ps t s))
      ∧ (ps ≠ [] → 47 < slot → exec (.catStore t) s = .next (refused 0x20#8 .badIndex ps t s))
      ∧ (ps ≠ [] → slot ≤ 47 → ∀ e, chainOf (ps.drop 1) = .error e →
          (e = .badLength ∨ e = .badValue) ∧ exec (.catStore t) s = .next (refused 0x20#8 e ps t s))
      ∧ (ps ≠ [] → slot ≤ 47 → ∀ c k, chainOf (ps.drop 1) = .ok (c, k) →
          ((recordAt s slot).locked = true → exec (.catStore t) s = .next (refused 0x20#8 .locked ps t s))
          ∧ ((recordAt s slot).locked = false →
              exec (.catStore t) s = .next (staged 0x20#8 (.catStore slot c) (be 1 k) ps t s))))
    ∧ (Serving s 0x21#8 ps →
      (ps.length ≠ 1 → exec (.catRetire t) s = .next (refused 0x21#8 .badLength ps t s))
      ∧ (ps.length = 1 → 47 < slot → exec (.catRetire t) s = .next (refused 0x21#8 .badIndex ps t s))
      ∧ (ps.length = 1 → slot ≤ 47 → (recordAt s slot).locked = true →
          exec (.catRetire t) s = .next (refused 0x21#8 .locked ps t s))
      ∧ (ps.length = 1 → slot ≤ 47 → (recordAt s slot).locked = false →
          exec (.catRetire t) s = .next (staged 0x21#8 (.catRetire slot) [] ps t s))))
  ∧ ChainRules ∧ SectionRules ∧ CharacterRules

/-- CAT_READ (R39), CAT_STATS (R40) and CAT_LOCK (R27): the refusals, where two hold the one listed first (log 40); CAT_READ
reports the record in the layout of 11.5, a FREE slot by its state and lock alone; CAT_STATS reports the ten counters and
clears them when asked; CAT_LOCK sets the lock and gives the slot state. Nothing else changes. The clock is the model's
(log 1). -/
def Obligations.CatReadStatsAndLock : Prop :=
  ∀ (t : Nat) (s : State) (ps : List Byte),
    let slot := firstByte ps
    let r := recordAt s slot
    (Serving s 0x22#8 ps →
      (ps.length ≠ 1 → exec (.catRead t) s = .next (refused 0x22#8 .badLength ps t s))
      ∧ (ps.length = 1 → 47 < slot → exec (.catRead t) s = .next (refused 0x22#8 .badIndex ps t s))
      ∧ (ps.length = 1 → slot ≤ 47 → exec (.catRead t) s = .next (replied 0x22#8 .ok (recordReport r) (atTime t s)))
      ∧ (r.state = .free → recordReport r = [if r.locked then 0x80#8 else 0x00#8])
      ∧ (∀ c, r.state ≠ .free → r.content = some c →
          let k := c.key
          let p := c.present
          recordReport r =
            [BitVec.ofNat 8 (r.state.code + (if c.pacing.redraw = .deadline then 32 else 0)
                + (if c.pacing.given then 64 else 0) + (if r.locked then 128 else 0)),
              BitVec.ofNat 8 (match r.fit with
                | .untested => 0
                | .fit _ => 1
                | .unfit reason => 2 + 16 * reason.code)]
            ++ be 2 (k.width.getD 0) ++ be 2 (k.height.getD 0) ++ be 3 ((k.window.map Prod.fst).getD 0)
            ++ be 3 ((k.window.map Prod.snd).getD 0)
            ++ [BitVec.ofNat 8 ((match k.format with
                  | none => 0
                  | some .full => 1
                  | some .half => 2)
                + 4 * (match k.depth with
                  | none => 0
                  | some .d8 => 1
                  | some .d10 => 2)
                + 16 * (match k.vrr with
                  | none => 0
                  | some false => 1
                  | some true => 2))]
            ++ [BitVec.ofNat 8 (p.profile + 16 * (match p.mode with
                | .explicit => 0
                | .native => 1
                | .fit => 2
                | .integer => 3))]
            ++ be 2 p.wout ++ be 2 p.hout ++ be 2 p.xoff ++ be 2 p.yoff ++ be 1 p.guard
            ++ be 2 p.fill.c0 ++ be 2 p.fill.c1 ++ be 2 p.fill.c2
            ++ be 3 c.pacing.ceiling ++ be 1 c.label.length ++ c.label.map charOf
            ++ (match r.fit with
                | .fit plan => planBytes plan
                | .untested | .unfit _ => [])))
    ∧ (Serving s 0x23#8 ps →
      (ps.length ≠ 2 → exec (.catStats t) s = .next (refused 0x23#8 .badLength ps t s))
      ∧ (ps.length = 2 → 47 < slot → exec (.catStats t) s = .next (refused 0x23#8 .badIndex ps t s))
      ∧ (ps.length = 2 → slot ≤ 47 → 1 < field ps 1 1 →
          exec (.catStats t) s = .next (refused 0x23#8 .badValue ps t s))
      ∧ (ps.length = 2 → slot ≤ 47 → field ps 1 1 ≤ 1 → r.state = .free →
          exec (.catStats t) s = .next (refused 0x23#8 .wrongState ps t s))
      ∧ (ps.length = 2 → slot ≤ 47 → field ps 1 1 ≤ 1 → r.state ≠ .free →
          exec (.catStats t) s = .next (replied 0x23#8 .ok
            (be 1 r.state.code ++ be 4 r.stats.activations ++ be 4 r.stats.presented ++ be 4 r.stats.skipped
              ++ be 4 r.stats.overrate ++ be 4 r.stats.collisions ++ be 4 r.stats.predicted ++ be 4 r.stats.forced
              ++ be 4 r.stats.worstLag ++ be 4 r.stats.underrun ++ be 4 r.stats.overflow)
            (if field ps 1 1 = 0 then atTime t s
              else { s with now := max s.now t, cat := s.cat.set slot { r with stats := .zero } }))))
    ∧ (Serving s 0x25#8 ps →
      (ps.length ≠ 1 → exec (.catLock t) s = .next (refused 0x25#8 .badLength ps t s))
      ∧ (ps.length = 1 → 47 < slot → exec (.catLock t) s = .next (refused 0x25#8 .badIndex ps t s))
      ∧ (ps.length = 1 → slot ≤ 47 → exec (.catLock t) s = .next (replied 0x25#8 .ok (be 1 r.state.code)
          { s with now := max s.now t, cat := s.cat.set slot { r with locked := true } })))

/-- CAT_LIST (R42, R181) gives one byte for each of the 48 slots in slot order: the slot state, the fit state, its reason and
the lock; it changes nothing. Where the clock then stands is left open. -/
def Obligations.CatListSummarisesTheCatalogue : Prop :=
  ∀ (t : Nat) (s : State) (ps : List Byte), Serving s 0x26#8 ps →
    (ps.length ≠ 0 → OnlyReplies (.catList t) s 0x26#8 .badLength (ps.take 8))
    ∧ (ps = [] → ∃ data : List Byte, OnlyReplies (.catList t) s 0x26#8 .ok data
      ∧ data.length = 48
      ∧ ∀ i < 48, ∃ b, data[i]? = some b
          ∧ b.toNat % 4 = (recordAt s i).state.code ∧ b.toNat / 4 % 4 = (recordAt s i).fit.code
          ∧ b.toNat / 16 % 8 = (recordAt s i).fit.reasonCode ∧ b.getLsbD 7 = (recordAt s i).locked)

/-- CAT_FIND (R41): the refusals; otherwise the first candidate that fits, in candidate order, with its slot, its
specificity, the candidates passed over and its plan; NO_MATCH when none fits. It changes nothing. The clock is the model's
(log 1). -/
def Obligations.CatFindSearchesWithoutActing : Prop :=
  ∀ (t : Nat) (s : State) (ps : List Byte), Serving s 0x24#8 ps →
    (ps.length ≠ 0 → ps.length ≠ 15 → exec (.catFind t) s = .next (refused 0x24#8 .badLength ps t s))
    ∧ (ps = [] → s.mon.state ≠ .settled → exec (.catFind t) s = .next (refused 0x24#8 .wrongState ps t s))
    ∧ (ps.length = 15 → suppliedObservation ps = none →
        exec (.catFind t) s = .next (refused 0x24#8 .badValue ps t s))
    ∧ (∀ o, (ps = [] ∧ s.mon.state = .settled ∧ o = s.mon.obs) ∨ (ps.length = 15 ∧ suppliedObservation ps = some o) →
        (∀ before slot after plan, candidates s.cat o = before ++ slot :: after →
          (∀ i ∈ before, ∃ reason, planSlot i o s = .unfit reason) → planSlot slot o s = .fit plan →
          exec (.catFind t) s = .next (replied 0x24#8 .ok
            (be 1 slot ++ be 1 ((recordSpecificity (recordAt s slot)).getD 0) ++ be 1 before.length
              ++ be 1 plan.profile ++ planBlock plan) (atTime t s)))
        ∧ ((∀ i ∈ candidates s.cat o, ∃ reason, planSlot i o s = .unfit reason) →
          exec (.catFind t) s = .next (refused 0x24#8 .noMatch ps t s)))

/-! ### The requests of the windows and of image memory -/

/-- The staged requests of the windows and SET_FILL: each check in order, then the edit with its clamped values (R121, R125,
R127, R128, R129). For WIN_DEFINE `k` is the length of the kind part and `sel` the selector count. The clock is the model's
(log 1). -/
def Obligations.WindowRequestsStageEdits : Prop :=
  ∀ (t : Nat) (s : State) (ps : List Byte),
    let win := firstByte ps
    (Serving s 0x30#8 ps →
      let kind := field ps 1 1
      let count := field ps 14 1
      let sel := if kind = 2 then field ps 17 1 else 0
      let k := if kind = 0 then 0 else if kind = 1 then 5 else 3 + sel
      (ps.length < 15 → exec (.winDefine t) s = .next (refused 0x30#8 .badLength ps t s))
      ∧ (15 ≤ ps.length → 15 < win → exec (.winDefine t) s = .next (refused 0x30#8 .badIndex ps t s))
      ∧ (15 ≤ ps.length → win ≤ 15 → 2 < kind → exec (.winDefine t) s = .next (refused 0x30#8 .badValue ps t s))
      ∧ (15 ≤ ps.length → win ≤ 15 → kind = 2 → ps.length < 18 →
          exec (.winDefine t) s = .next (refused 0x30#8 .badLength ps t s))
      ∧ (15 ≤ ps.length → win ≤ 15 → kind ≤ 2 → (kind = 2 → 18 ≤ ps.length) →
          (count = 0 ∨ 15 < count ∨ 4 < sel) → exec (.winDefine t) s = .next (refused 0x30#8 .badValue ps t s))
      ∧ (15 ≤ ps.length → win ≤ 15 → kind ≤ 2 → (kind = 2 → 18 ≤ ps.length) → 1 ≤ count → count ≤ 15 → sel ≤ 4 →
          (ps.length ≠ 15 + k + 4 * count → exec (.winDefine t) s = .next (refused 0x30#8 .badLength ps t s))
          ∧ (ps.length = 15 + k + 4 * count → definitionOf ps (15 + k) = none →
              exec (.winDefine t) s = .next (refused 0x30#8 .badValue ps t s))
          ∧ (∀ d, ps.length = 15 + k + 4 * count → definitionOf ps (15 + k) = some d →
              exec (.winDefine t) s = .next (staged 0x30#8 (.winDefine win d) [] ps t s))))
    ∧ (Serving s 0x31#8 ps →
      (ps.length ≠ 7 → exec (.winPlace t) s = .next (refused 0x31#8 .badLength ps t s))
      ∧ (ps.length = 7 → 15 < win → exec (.winPlace t) s = .next (refused 0x31#8 .badIndex ps t s))
      ∧ (ps.length = 7 → win ≤ 15 → 4095 < field ps 1 2 ∨ 4095 < field ps 3 2 →
          exec (.winPlace t) s = .next (refused 0x31#8 .badValue ps t s))
      ∧ (ps.length = 7 → win ≤ 15 → field ps 1 2 ≤ 4095 → field ps 3 2 ≤ 4095 →
          exec (.winPlace t) s = .next (staged 0x31#8
            (.winPlace win (field ps 1 2) (field ps 3 2) (min (field ps 5 1) 15) (min (field ps 6 1) 16)) [] ps t s)))
    ∧ (Serving s 0x32#8 ps →
      (ps.length ≠ 2 → exec (.winShow t) s = .next (refused 0x32#8 .badLength ps t s))
      ∧ (ps.length = 2 → 15 < win → exec (.winShow t) s = .next (refused 0x32#8 .badIndex ps t s))
      ∧ (ps.length = 2 → win ≤ 15 → 1 < field ps 1 1 → exec (.winShow t) s = .next (refused 0x32#8 .badValue ps t s))
      ∧ (ps.length = 2 → win ≤ 15 → field ps 1 1 ≤ 1 →
          exec (.winShow t) s = .next (staged 0x32#8 (.winShow win (decide (field ps 1 1 = 1))) [] ps t s)))
    ∧ (Serving s 0x33#8 ps →
      (ps.length ≠ 1 → exec (.winRetire t) s = .next (refused 0x33#8 .badLength ps t s))
      ∧ (ps.length = 1 → 15 < win → exec (.winRetire t) s = .next (refused 0x33#8 .badIndex ps t s))
      ∧ (ps.length = 1 → win ≤ 15 → exec (.winRetire t) s = .next (staged 0x33#8 (.winRetire win) [] ps t s)))
    ∧ (Serving s 0x43#8 ps →
      (ps.length ≠ 6 → exec (.setFill t) s = .next (refused 0x43#8 .badLength ps t s))
      ∧ (ps.length = 6 → exec (.setFill t) s = .next (staged 0x43#8
          (.setFill ⟨min (field ps 0 2) 1023, min (field ps 2 2) 1023, min (field ps 4 2) 1023⟩) [] ps t s)))

/-- What a WIN_DEFINE's definition holds (R125, R180); the palette begins at `start`. Fields in their ranges give the definition:
the fields as given, z at most 15, alpha at most 16, scale 1 to 4, a palette of the count's entries with components at most
1023, and the kind with its own fields, a refresh interval of 0 being 256. A field outside its range gives none. -/
def Obligations.WindowDefinitionsAreClamped : Prop :=
  ∀ (ps : List Byte) (start : Nat),
    let common := fun (kind : WindowKind) => ({
      kind := kind, x := field ps 2 2, y := field ps 4 2, w := field ps 6 2, h := field ps 8 2
      z := min (field ps 10 1) 15, alpha := min (field ps 11 1) 16, scale := max 1 (min (field ps 12 1) 4)
      binding := if field ps 13 1 = 255 then none else some (field ps 13 1)
      palette := (List.range (field ps 14 1)).map fun i =>
        let v := field ps (start + 4 * i) 4
        ⟨min (v / 2 ^ 21) 1023, min (v / 2 ^ 10 % 2 ^ 11) 1023, v % 2 ^ 10⟩ } : WindowDef)
    let inRange := field ps 2 2 ≤ 4095 ∧ field ps 4 2 ≤ 4095 ∧ 1 ≤ field ps 6 2 ∧ field ps 6 2 ≤ 3840
      ∧ 1 ≤ field ps 8 2 ∧ field ps 8 2 ≤ 2160 ∧ (field ps 13 1 = 255 ∨ field ps 13 1 < 48)
    let page := field ps 15 1
    let width := field ps 16 2
    let height := field ps 18 2
    let imageInRange := page ≤ 127 ∧ 1 ≤ width ∧ width ≤ 3840 ∧ 1 ≤ height ∧ height ≤ 2160
      ∧ page * 2048 + (width + 1) / 2 * height ≤ 262144
    let codes := ((ps.drop 18).take (field ps 17 1)).map BitVec.toNat
    (¬inRange → definitionOf ps start = none)
      ∧ (inRange → field ps 1 1 = 0 → definitionOf ps start = some (common .solid))
      ∧ (inRange → field ps 1 1 = 1 → imageInRange → definitionOf ps start = some (common (.image page width height)))
      ∧ (field ps 1 1 = 1 → ¬imageInRange → definitionOf ps start = none)
      ∧ (inRange → field ps 1 1 = 2 → page ≤ 126 → (∀ code ∈ codes, code ≤ 7) →
          ∃ sel : List Selector, sel.map Selector.code = codes
            ∧ definitionOf ps start
              = some (common (.figures page (if field ps 16 1 = 0 then 256 else field ps 16 1) sel)))
      ∧ (field ps 1 1 = 2 → 126 < page ∨ (∃ code ∈ codes, 7 < code) → definitionOf ps start = none)
      ∧ (2 < field ps 1 1 → definitionOf ps start = none)
      ∧ (∀ d, definitionOf ps start = some d → d.x ≤ 4095 ∧ d.y ≤ 4095 ∧ 1 ≤ d.w ∧ d.w ≤ 3840 ∧ 1 ≤ d.h ∧ d.h ≤ 2160
          ∧ d.z ≤ 15 ∧ d.alpha ≤ 16 ∧ 1 ≤ d.scale ∧ d.scale ≤ 4 ∧ (∀ slot, d.binding = some slot → slot < 48)
          ∧ d.palette.length = field ps 14 1 ∧ (∀ c ∈ d.palette, c.c0 ≤ 1023 ∧ c.c1 ≤ 1023 ∧ c.c2 ≤ 1023)
          ∧ (∀ p w h, d.kind = .image p w h → p ≤ 127 ∧ 1 ≤ w ∧ w ≤ 3840 ∧ 1 ≤ h ∧ h ≤ 2160
              ∧ p * 2048 + (w + 1) / 2 * h ≤ 262144)
          ∧ (∀ base refresh sel, d.kind = .figures base refresh sel → base ≤ 126 ∧ 1 ≤ refresh ∧ refresh ≤ 256))

/-- WIN_READ (R144): the refusals, where two hold the one listed first (log 40); part 0 of every window; part 1, the palette, of
one that is defined; part 2, the text, of a FIGURES window; WRONG_STATE where there is none. Part 0 of a FREE window is its
state alone, and of a defined one the fields of the layout of R181 with those of its kind. It changes nothing. The clock is the
model's (log 1). -/
def Obligations.WinReadReportsAWindow : Prop :=
  ∀ (t : Nat) (s : State) (ps : List Byte), Serving s 0x34#8 ps →
    let win := firstByte ps
    let w := windowAt s win
    (ps.length ≠ 2 → exec (.winRead t) s = .next (refused 0x34#8 .badLength ps t s))
    ∧ (ps.length = 2 → 15 < win → exec (.winRead t) s = .next (refused 0x34#8 .badIndex ps t s))
    ∧ (ps.length = 2 → win ≤ 15 → 2 < field ps 1 1 → exec (.winRead t) s = .next (refused 0x34#8 .badValue ps t s))
    ∧ (ps.length = 2 → win ≤ 15 → field ps 1 1 = 0 →
        exec (.winRead t) s = .next (replied 0x34#8 .ok (windowReport w) (atTime t s)))
    ∧ (ps.length = 2 → win ≤ 15 → w.definition = none → field ps 1 1 = 1 ∨ field ps 1 1 = 2 →
        exec (.winRead t) s = .next (refused 0x34#8 .wrongState ps t s))
    ∧ (∀ d, ps.length = 2 → win ≤ 15 → w.definition = some d → field ps 1 1 = 1 →
        exec (.winRead t) s = .next (replied 0x34#8 .ok
          (d.palette.flatMap fun c => be 4 (c.c0 * 2 ^ 21 + c.c1 * 2 ^ 10 + c.c2)) (atTime t s)))
    ∧ (∀ d, ps.length = 2 → win ≤ 15 → w.definition = some d → field ps 1 1 = 2 →
        (∀ base refresh sel, d.kind = .figures base refresh sel →
          exec (.winRead t) s = .next (replied 0x34#8 .ok (w.text.flatten.map (BitVec.ofNat 8)) (atTime t s)))
        ∧ ((∀ base refresh sel, d.kind ≠ .figures base refresh sel) →
          exec (.winRead t) s = .next (refused 0x34#8 .wrongState ps t s)))
    ∧ (w.definition = none → windowReport w = be 1 w.state.code)
    ∧ (∀ d, w.definition = some d →
        let part0 := fun (kind : Nat) (own : List Byte) =>
          be 1 w.state.code ++ be 1 kind ++ be 2 d.x ++ be 2 d.y ++ be 2 d.w ++ be 2 d.h ++ be 1 d.z
            ++ be 1 d.alpha ++ be 1 d.scale ++ be 1 (d.binding.getD 255) ++ be 1 d.palette.length ++ own ++ be 2 w.dropped
        (d.kind = .solid → windowReport w = part0 0 [])
        ∧ (∀ page width height, d.kind = .image page width height →
            windowReport w = part0 1 (be 1 page ++ be 2 width ++ be 2 height))
        ∧ (∀ base refresh sel, d.kind = .figures base refresh sel → refresh ≤ 256 →
            windowReport w = part0 2 (be 1 base ++ be 1 (if refresh = 256 then 0 else refresh) ++ be 1 w.launches
              ++ be 1 sel.length ++ sel.map fun x => BitVec.ofNat 8 (match x with
                | .none => 0
                | .sourceRate => 1
                | .panelRate => 2
                | .startLag => 3
                | .addedLag => 4
                | .skipped => 5
                | .redraws => 6
                | .label => 7))))

/-- IMG_WRITE (R136, R137): the checks in order; otherwise the data bytes stand at consecutive addresses from the start, a
byte at 262,144 or beyond is discarded, every other byte of image memory reads as before, and the write pointer stands after
the data, at most at the end of memory. The reply gives the bytes written and the pointer. The clock is the model's
(log 1). -/
def Obligations.ImgWriteWritesImageMemory : Prop :=
  ∀ (t : Nat) (s : State) (ps : List Byte), Serving s 0x35#8 ps → s.ImageLaw →
    let form := field ps 0 1
    let writes := fun (start : Nat) (data : List Byte) =>
      ∃ s', exec (.imgWrite t) s = .next (replied 0x35#8 .ok
            (be 1 (min data.length (262144 - start)) ++ be 3 (min (start + data.length) 262144)) s')
        ∧ s' = { s with
            now := max s.now t
            overlay := { s.overlay with image := s'.overlay.image, writePtr := min (start + data.length) 262144 } }
        ∧ ∀ a, imageRead a s'.overlay.image =
            if start ≤ a ∧ a < start + data.length ∧ a < 262144 then data.getD (a - start) 0#8
            else imageRead a s.overlay.image
    (ps.length < 2 → exec (.imgWrite t) s = .next (refused 0x35#8 .badLength ps t s))
    ∧ (2 ≤ ps.length → 1 < form → exec (.imgWrite t) s = .next (refused 0x35#8 .badValue ps t s))
    ∧ (2 ≤ ps.length → form = 0 → ps.length < 5 ∨ 52 < ps.length →
        exec (.imgWrite t) s = .next (refused 0x35#8 .badLength ps t s))
    ∧ (5 ≤ ps.length → ps.length ≤ 52 → form = 0 → 127 < field ps 1 1 ∨ 2047 < field ps 2 2 →
        exec (.imgWrite t) s = .next (refused 0x35#8 .badValue ps t s))
    ∧ (5 ≤ ps.length → ps.length ≤ 52 → form = 0 → field ps 1 1 ≤ 127 → field ps 2 2 ≤ 2047 →
        writes (field ps 1 1 * 2048 + field ps 2 2) (ps.drop 4))
    ∧ (49 < ps.length → form = 1 → exec (.imgWrite t) s = .next (refused 0x35#8 .badLength ps t s))
    ∧ (2 ≤ ps.length → ps.length ≤ 49 → form = 1 → writes s.overlay.writePtr (ps.drop 1))

/-- IMG_READ (R138): the checks in order; otherwise the bytes from the start address in address order, up to the count or
to the end of memory. It moves nothing and changes nothing. Where the clock then stands is left open. -/
def Obligations.ImgReadReadsImageMemory : Prop :=
  ∀ (t : Nat) (s : State) (ps : List Byte), Serving s 0x36#8 ps →
    let page := field ps 0 1
    let offset := field ps 1 2
    let count := field ps 3 1
    (ps.length ≠ 4 → OnlyReplies (.imgRead t) s 0x36#8 .badLength (ps.take 8))
    ∧ (ps.length = 4 → 127 < page ∨ 2047 < offset ∨ count < 1 ∨ 96 < count →
        OnlyReplies (.imgRead t) s 0x36#8 .badValue (ps.take 8))
    ∧ (ps.length = 4 → page ≤ 127 → offset ≤ 2047 → 1 ≤ count → count ≤ 96 →
        ∃ data : List Byte, OnlyReplies (.imgRead t) s 0x36#8 .ok data
          ∧ data.length = min count (262144 - (page * 2048 + offset))
          ∧ ∀ i < data.length, data[i]? = some (imageRead (page * 2048 + offset + i) s.overlay.image))

/-! ### The requests of the panel port -/

/-- PROFILE_SET (R107, R108): the checks in order; the clear form makes the profile INVALID with every field 0; the write
form, when each field is in its range and both relations of R106 hold, makes it VALID with the fields given. Nothing else
changes. The reply's codes are the model's (log 9), the clock too (log 1). -/
def Obligations.ProfileSetWritesAProfile : Prop :=
  ∀ (t : Nat) (s : State) (ps : List Byte), Serving s 0x40#8 ps →
    let i := firstByte ps
    let inUse := s.panel.current = some i ∧ s.pacer.state ≠ .standby ∧ s.pacer.state ≠ .rest
    let p : Profile :=
      { valid := true, wp := field ps 1 2, hp := field ps 3 2, lpMin := field ps 5 3, lpMax := field ps 8 3,
        nlead := field ps 11 1, nfpMin := field ps 12 1, tmax := field ps 13 3, fr := field ps 16 3,
        switchTime := field ps 19 3, redraw := field ps 22 1 == 1 }
    let ranges := 640 ≤ p.wp ∧ p.wp ≤ 3840 ∧ p.wp % 4 = 0 ∧ 360 ≤ p.hp ∧ p.hp ≤ 2160 ∧ 1600 ≤ p.lpMin
      ∧ p.lpMin ≤ p.lpMax ∧ p.lpMax ≤ 320000 ∧ 4 ≤ p.nlead ∧ 1 ≤ p.nfpMin ∧ 200000 ≤ p.tmax ∧ p.tmax ≤ 10000000
      ∧ p.switchTime ≤ 10000000 ∧ field ps 22 1 ≤ 1
    let relations := (((p.nlead + p.hp + p.nfpMin) * p.lpMax + 15) / 16 ≤ p.tmax)
      ∧ ((p.nlead + p.hp + p.nfpMin) * p.lpMin + 15) / 16 ≤ p.fr ∧ p.fr ≤ p.tmax
    let written := fun (q : Profile) (code : Byte) => replied 0x40#8 .ok [code]
      { s with now := max s.now t, panel := { s.panel with profiles := s.panel.profiles.set i q } }
    (ps.length ≠ 1 → ps.length ≠ 23 → exec (.profileSet t) s = .next (refused 0x40#8 .badLength ps t s))
    ∧ (ps.length = 1 ∨ ps.length = 23 → 3 < i → exec (.profileSet t) s = .next (refused 0x40#8 .badIndex ps t s))
    ∧ (ps.length = 1 ∨ ps.length = 23 → i ≤ 3 → inUse →
        exec (.profileSet t) s = .next (refused 0x40#8 .wrongState ps t s))
    ∧ (ps.length = 1 → i ≤ 3 → ¬inUse → exec (.profileSet t) s = .next (written Profile.invalid 0x00#8))
    ∧ (ps.length = 23 → i ≤ 3 → ¬inUse → ¬(ranges ∧ relations) →
        exec (.profileSet t) s = .next (refused 0x40#8 .badValue ps t s))
    ∧ (ps.length = 23 → i ≤ 3 → ¬inUse → ranges → relations → exec (.profileSet t) s = .next (written p 0x01#8))

/-- PROFILE_READ (R109, R181; refusals in the order they are listed, log 40) gives the profile, its two Tmin figures, whether
it is the current one, the port and the part fill colour in 45 bytes, and changes nothing. The profile's state codes are the
model's (log 9), the clock too (log 1). -/
def Obligations.ProfileReadReportsTheProfile : Prop :=
  ∀ (t : Nat) (s : State) (ps : List Byte), Serving s 0x41#8 ps →
    let i := firstByte ps
    let p := profileAt s i
    let data := [if p.valid then 1#8 else 0#8] ++ be 2 p.wp ++ be 2 p.hp ++ be 3 p.lpMin ++ be 3 p.lpMax
      ++ be 1 p.nlead ++ be 1 p.nfpMin ++ be 3 p.tmax ++ be 3 p.fr ++ be 3 p.switchTime
      ++ [if p.redraw then 1#8 else 0#8]
      ++ be 4 (((p.nlead + p.hp + p.nfpMin) * p.lpMin + 15) / 16)
      ++ be 4 (((p.nlead + p.hp + p.nfpMin) * p.lpMax + 15) / 16)
      ++ [if s.panel.current = some i then 1#8 else 0#8] ++ be 1 (s.panel.current.getD 255) ++ be 1 s.panel.state.code
      ++ be 1 s.panel.phase.code
      ++ be 4 (match s.panel.phase with
          | .switching e => e - max s.now t
          | _ => 0)
      ++ be 2 s.panel.fill.c0 ++ be 2 s.panel.fill.c1 ++ be 2 s.panel.fill.c2
    (ps.length ≠ 1 → exec (.profileRead t) s = .next (refused 0x41#8 .badLength ps t s))
    ∧ (ps.length = 1 → 3 < i → exec (.profileRead t) s = .next (refused 0x41#8 .badIndex ps t s))
    ∧ (ps.length = 1 → i ≤ 3 → exec (.profileRead t) s = .next (replied 0x41#8 .ok data (atTime t s)))
    ∧ data.length = 45


/-! ### The pixel input -/

/-- SOURCE_FRAME_START in NO_SIGNAL (R6, R13, R16, R80). With SIGNAL_OK high: MEASURING, the frame begun, the frame-start
timer started, the game request sampled with HINT when it is on, and the rest timer loaded. With SIGNAL_OK low, and in
STARTING (R2), it is ignored. The deadline's arming and the rest timer are evaluated again (R64, R80), after an ignored frame
start too (log 34). The clock is the model's (log 1). -/
def Obligations.SignalAppears : Prop :=
  ∀ (t : Nat) (ok vrr game : Bool) (format : Format) (depth : Depth) (s : State), ClearedInNoSignal s →
    s.mon.state = .noSignal →
    (ok = false ∨ s.ctl.phase = .starting →
      exec (.sourceFrameStart t ok format depth vrr game) s = .next (settlePacer (atTime t s)))
    ∧ (ok = true → s.ctl.phase = .ready → s.pacer.state ≠ .live →
      let now := max s.now t
      exec (.sourceFrameStart t ok format depth vrr game) s = .next (settlePacer
        { s with
          now := now
          mon := { s.mon with
            state := .measuring
            obs := { s.mon.obs with game := game }
            lastStart := some now
            timer := some (now + 10000000)
            frame := some { start := now, format := format, depth := depth, vrr := vrr, game := game, lines := 0,
                            width0 := 0, line0At := 0, ls := 0, slead := 0, regular := true, ended := false } }
          pacer := { s.pacer with
            restTimer := if s.pacer.restTime = 0 then .stopped else .paused (s.pacer.restTime * 10000000) }
          ev := { s.ev with flags := if game then s.ev.flags ||| 0x0800#16 else s.ev.flags } }))

/-- SOURCE_FRAME_START in LIVE, SETTLED, with the previous frame ended and no change (R13, R67 to R70). With a live launch
pending the frame is skipped and nothing else of the pacer is touched. Otherwise, with no switch, the launch decision:
entries later than d − Tmin are cancelled; A is the deciding launch's time and spacing less d, or 0; with A within the limit
a live launch is pending at d + A, with its class, and the line store has a DECIDED entry; with A above it the frame is
skipped, and under predict-enabled the predictions are scheduled anew from the last launch. The class of a frame with A = 0
is none (log 11); with no last launch to predict from, the schedule is emptied (log 28). A launch that falls at the decision is
made at once, inside this command, also where it ends a switch (R69, log 19). With a switch waiting the frame is skipped; with
one in progress it is presented at d, with A = 0, when the switch ends by d, and skipped otherwise (R78). A source line under
way stays one of the old frame (log 22). The clock is the model's (log 1). -/
def Obligations.LaunchDecision : Prop :=
  ∀ (t : Nat) (ok : Bool) (s : State) (p : Plan) (f : SourceFrame),
    s.ctl.phase = .ready → s.mon.state = .settled → s.mon.frame = some f → f.ended = true →
    s.pacer.state = .live → s.plan = some p →
    let now := max s.now t
    let o := s.mon.obs
    let c := Instr.sourceFrameStart t ok o.format o.depth o.vrr o.game
    let s1 : State := { s with
      now := now
      mon := { s.mon with
        timer := some (now + 10000000)
        periods := match s.mon.lastStart with
          | some a => (if s.mon.periods.length < 4 then s.mon.periods
              else s.mon.periods.drop (s.mon.periods.length - 3)) ++ [min (now - a) 10000000]
          | none => s.mon.periods
        lastStart := some now
        frame := some { start := now, format := o.format, depth := o.depth, vrr := o.vrr, game := o.game, lines := 0,
                        width0 := 0, line0At := 0, ls := 0, slead := 0, regular := true, ended := false }
        line := s.mon.line.map fun l => { l with inFrame := false } } }
    let skipped := fun s2 => counted (fun x => { x with skipped := more x.skipped }) (flagged 7 s2)
    let presented := fun (schedule : List SchedEntry) (time lag : Nat) (cls : Option DeferClass) =>
      let x : PendingLaunch := { time := time, plan := p, lag := lag, cls := cls }
      let s2 : State := { s1 with
        pacer := { s1.pacer with schedule := schedule, pending := some x }
        store := { s.store with entries := s.store.entries ++
          [{ tag := newTag s.store, start := now, plan := p, fill := activeFill s, format := o.format, depth := o.depth,
             phase := .decided, storing := true, begun := 0, mode := .live, nextLine := 0 }] } }
      if time = now then launchPending x s2 else s2
    (s.pacer.pending ≠ none → exec c s = .next (settlePacer (skipped s1)))
    ∧ (s.pacer.pending = none → s.pacer.tracking = .waiting → exec c s = .next (settlePacer (skipped s1)))
    ∧ (s.pacer.pending = none → s.pacer.tracking = .noSwitch →
      let d := now + p.w
      let kept := s.pacer.schedule.filter fun x => decide (x.time + p.tmin ≤ d)
      let deciding := decidingLaunch d p.tmin kept (scheduled kept s1)
      let lag := (deciding.map fun l => l.time + l.spacing - d).getD 0
      let cls := if lag = 0 then none
        else deciding.map fun l => if l.live then DeferClass.overrate else DeferClass.collision
      (lag ≤ p.limit → exec c s = .next (settlePacer (presented kept (d + lag) lag cls)))
      ∧ (p.limit < lag →
        exec c s = .next (settlePacer (skipped (scheduled
          (if p.predict then (match s.pacer.last with
              | some l => predictions l.time s1
              | none => [])
            else kept) s1)))))
    ∧ (∀ e, s.pacer.pending = none → s.pacer.tracking = .switching e →
      (e ≤ now + p.w → exec c s = .next (settlePacer (presented s.pacer.schedule (now + p.w) 0 none)))
      ∧ (now + p.w < e → exec c s = .next (settlePacer (skipped s1))))

/-- How the deciding launch (R68) and the predictions (R72) come out. With no scheduled entry and no forced launch due by d
it is the last launch; with one entry at or after e, no forced launch before it, and none after it by d, it is that entry,
not live; with no entry and one forced launch due by d, it is that forced launch. The predictions from L are
L + k·(P̂ div m), k from 1 to m − 1, m = min(16, ceil(P̂/Tmax)), less those already past. A forced launch due before e is none
(log 41). -/
def Obligations.DecidingLaunchAndPredictions : Prop :=
  ∀ (s : State) (d tmin : Nat),
    let tmax := (currentProfile s).tmax
    let last := s.pacer.last.map fun l => ({ time := l.time, spacing := l.spacing, live := decide (l.kind = .live) } : Deciding)
    ((∀ l, s.pacer.last = some l → l.time + tmax < s.now ∨ d < l.time + tmax ∨ tmax < l.spacing) →
      decidingLaunch d tmin [] s = last)
    ∧ (∀ x : SchedEntry, d < x.time + tmax →
        (∀ l, s.pacer.last = some l →
          l.time + l.spacing ≤ x.time ∧ (l.time + tmax < s.now ∨ x.time ≤ l.time + tmax ∨ tmax < l.spacing)) →
        s.now ≤ x.time → x.time ≤ d →
        decidingLaunch d tmin [x] s = some { time := x.time, spacing := tmin, live := false })
    ∧ (∀ l, s.pacer.last = some l → l.spacing ≤ tmax → s.now ≤ l.time + tmax → l.time + tmax ≤ d → d < l.time + 2 * tmax →
        decidingLaunch d tmin [] s = some { time := l.time + tmax, spacing := tmin, live := false })
    ∧ (∀ anchor : Nat,
        (s.mon.periods = [] → predictions anchor s = [])
        ∧ (s.mon.periods ≠ [] →
          let est := s.mon.periods.sum / s.mon.periods.length
          let m := min 16 ((est + tmax - 1) / tmax)
          ∀ x : SchedEntry, x ∈ predictions anchor s ↔
            x.reason = .predicted ∧ x.kind = .redraw ∧ s.now ≤ x.time
              ∧ ∃ k, 1 ≤ k ∧ k < m ∧ x.time = anchor + k * (est / m))
        ∧ (predictions anchor s).Pairwise (fun a b => a.time ≤ b.time) ∧ (predictions anchor s).length ≤ 15)

/-- LINE_START (R2, R7, R8, R10, R94). It begins a fresh line; a line with active data is closed into its frame, and awaits
its line complete while data-enable has not fallen; a blank line after the frame's first active line is the frame end. At a
frame end storing closes for the frame's entry, and: in MEASURING a regular frame is the candidate, an irregular one clears
the periods; in CANDIDATE an irregular frame goes back to MEASURING, a regular one that disagrees is the new candidate; one
that agrees settles, SETTLED is delivered and a lookup requested (the catalogue before the pacer: log 12), and the pacer in
REST leaves it with wake-on-source set and the current profile VALID, and stays otherwise (R81); in SETTLED a frame of full
height counts. Outside STARTING and NO_SIGNAL; there it is ignored. A line that a source frame start left to the old frame is
closed into none (log 22), and widths are compared unsaturated (log 23). The deadline's arming is evaluated again, after an
ignored line start too (R64, log 34). The clock is the model's (log 1). -/
def Obligations.LineStartAndFrameEnd : Prop :=
  ∀ (t : Nat) (s : State),
    (s.ctl.phase = .starting ∨ s.mon.state = .noSignal → exec (.lineStart t) s = .next (settlePacer (atTime t s)))
    ∧ (s.ctl.phase = .ready → s.mon.state ≠ .noSignal →
      let s1 := atTime t s
      let begun := fun (x : State) =>
        { x with mon := { x.mon with line := some freshLine, uncompleted := s.mon.uncompleted ++ awaiting s.mon.line } }
      (s.mon.line = none → exec (.lineStart t) s = .next (settlePacer (begun s1)))
      ∧ (∀ l, s.mon.line = some l → l.active = true → ¬(s.mon.state = .settled ∧ l.width < s.mon.obs.width) →
          exec (.lineStart t) s = .next (settlePacer (begun { s1 with mon := { s.mon with
            frame := s.mon.frame.map fun f =>
              if l.inFrame = true then
                (if l.number = 0 then { f with width0 := l.width }
                  else { f with regular := f.regular && decide (l.width = f.width0) })
              else f } })))
      ∧ (∀ l, s.mon.line = some l → l.active = false →
          (s.mon.frame = none ∨ ∃ f, s.mon.frame = some f ∧ (f.lines = 0 ∨ f.ended = true)) →
          exec (.lineStart t) s = .next (settlePacer (begun s1)))
      ∧ (∀ l f, s.mon.line = some l → l.active = false → s.mon.frame = some f → 0 < f.lines → f.ended = false →
          let m := { s.mon with frame := some { f with ended := true } }
          let agrees := (takenIn f s.mon.obs).width = s.mon.obs.width ∧ (takenIn f s.mon.obs).height = s.mon.obs.height
            ∧ f.format = s.mon.obs.format ∧ f.depth = s.mon.obs.depth ∧ f.vrr = s.mon.obs.vrr ∧ near f.ls s.mon.obs.ls
          let ended := fun (n : Monitor) =>
            ({ s1 with
              mon := n
              store := { s.store with entries := s.store.entries.map fun e =>
                if e.start = f.start then { e with storing := false } else e } } : State)
          (s.mon.state = .measuring → f.regular = true → exec (.lineStart t) s = .next (settlePacer (begun
            (ended { m with state := .candidate, obs := takenIn f s.mon.obs }))))
          ∧ (s.mon.state = .measuring → f.regular = false → exec (.lineStart t) s = .next (settlePacer (begun
            (ended { m with periods := [] }))))
          ∧ (s.mon.state = .candidate → f.regular = false → exec (.lineStart t) s = .next (settlePacer (begun
            (ended { m with state := .measuring, periods := [] }))))
          ∧ (s.mon.state = .candidate → f.regular = true → ¬agrees → exec (.lineStart t) s = .next (settlePacer (begun
            (ended { m with obs := takenIn f s.mon.obs, periods := [] }))))
          ∧ (s.mon.state = .candidate → f.regular = true → agrees → s.pacer.state ≠ .rest →
            exec (.lineStart t) s = .next (settlePacer (begun (requestLookup (flagged 1
              (ended { m with state := .settled, obs := { takenIn f s.mon.obs with sinceSettle := 0 } }))))))
          ∧ (s.mon.state = .candidate → f.regular = true → agrees → s.pacer.state = .rest →
            let settled := flagged 1
              (ended { m with state := .settled, obs := { takenIn f s.mon.obs with sinceSettle := 0 } })
            (s.pacer.wakeOnSource = true → (currentProfile s).valid = true →
              exec (.lineStart t) s = .next (settlePacer (begun (requestLookup { settled with pacer := { s.pacer with
                state := .freeRun
                restTimer := if s.pacer.restTime = 0 then .stopped else .paused (s.pacer.restTime * 10000000)
                schedule := if s.pacer.tracking = .noSwitch then
                    [{ time := match s.pacer.last with
                        | none => s1.now
                        | some l => max s1.now (max (l.time + (currentProfile s).fr) (l.time + l.spacing))
                       reason := .periodic, kind := .generated }]
                  else [] } }))))
            ∧ (s.pacer.wakeOnSource = false ∨ (currentProfile s).valid = false →
              exec (.lineStart t) s = .next (settlePacer (begun settled))))
          ∧ (s.mon.state = .settled → s.mon.obs.height ≤ min f.lines 4095 →
            exec (.lineStart t) s = .next (settlePacer (begun
              (ended { m with obs := { s.mon.obs with sinceSettle := min 65535 (s.mon.obs.sinceSettle + 1) } }))))))

/-- ACTIVE_LINE_START (R2, R3, R91) of a line that begins active data and is no change, in whichever order the line store
and the monitor take it: the frame counts the line, line 0 gives Slead and the start of Ls, line 16 gives Ls; with no frame
entry the store is left alone; with one whose storing is open and a line below H_in, a FREE slot becomes FILLING for the
line, its former pixels kept (R88), and with all slots occupied the line is an overflow line, counted and signalled with
OVERFLOW. Which FREE slot is taken does not matter: the model takes the lowest (log 13). The lines begun stop at H_in (log 25),
and a line counts after the frame end was taken too (log 24). The clock is the model's (log 1). -/
def Obligations.ActiveLineStartMeasuresAndStores : Prop :=
  ∀ (t : Nat) (order : Bool) (s : State) (l : SourceLine) (f : SourceFrame),
    s.ctl.phase = .ready → s.mon.state ≠ .noSignal → s.mon.line = some l → l.active = false → s.mon.frame = some f →
    let now := max s.now t
    let i := f.lines
    let f' : SourceFrame := { f with
      lines := i + 1
      line0At := if i = 0 then now else f.line0At
      slead := if i = 0 then min (now - f.start) 10000000 else f.slead
      ls := if i = 16 then min (now - f.line0At) 1048575 else f.ls }
    ¬(s.mon.state = .settled ∧ (s.mon.obs.height ≤ i ∨ (i = 16 ∧ ¬near f'.ls s.mon.obs.ls))) →
    let s1 : State := { s with
      now := now
      mon := { s.mon with
        frame := some f'
        line := some { l with active := true, number := i, frameStart := f.start, inFrame := true } } }
    let begunMore := s.store.entries.map fun e =>
      if e.start = f.start then { e with begun := min (e.begun + 1) e.plan.hin } else e
    (entryOf f.start s.store = none → exec (.activeLineStart t order) s = .next (settlePacer s1))
    ∧ (∀ e, entryOf f.start s.store = some e → e.storing = false ∨ e.plan.hin ≤ i →
        exec (.activeLineStart t order) s
          = .next (settlePacer { s1 with store := { s.store with entries := begunMore } }))
    ∧ (∀ e before x after, entryOf f.start s.store = some e → e.storing = true → i < e.plan.hin →
        s.store.slots = before ++ x :: after → (∀ y ∈ before, y.state ≠ .free) → x.state = .free →
        exec (.activeLineStart t order) s = .next (settlePacer { s1 with store :=
          { slots := before ++ { x with state := .filling, tag := e.tag, line := i, written := 0 } :: after
            entries := begunMore } }))
    ∧ (∀ e, entryOf f.start s.store = some e → e.storing = true → i < e.plan.hin →
        (∀ y ∈ s.store.slots, y.state ≠ .free) →
        exec (.activeLineStart t order) s = .next (settlePacer (flagged 9
          (counted (fun x => { x with overflow := more x.overflow })
            { s1 with store := { s.store with entries := begunMore } }))))

/-- PIXEL_TRANSFER and LINE_COMPLETE (R2, R88, R92, R93, R94), with no change. The pixels of the lanes whose enable is high count
toward the width of the line with active data; while it is not complete and its frame's entry is in picture mode LIVE, they
follow those its FILLING slot has written, and what former lines left beyond them stays. A fall of data-enable is the line
complete of the line in progress, and of an earlier one that a line start found without one: each sets its FILLING slot HELD,
and no line awaits one any more. The clock is the model's (log 1). -/
def Obligations.PixelsAndLineComplete : Prop :=
  (∀ (t : Nat) (l0 l1 l2 l3 : Option RawPixel) (s : State) (l : SourceLine),
    s.ctl.phase = .ready → s.mon.state ≠ .noSignal → s.mon.line = some l → l.active = true →
    let s1 := atTime t s
    let px := l0.toList ++ l1.toList ++ l2.toList ++ l3.toList
    ¬(s.mon.state = .settled ∧ s.mon.obs.width < l.width + px.length) →
      let m := { s.mon with line := some { l with width := l.width + px.length } }
      (l.complete = true ∨ entryOf l.frameStart s.store = none
          ∨ (∃ e, entryOf l.frameStart s.store = some e ∧ e.mode = .fillOut) →
        exec (.pixelTransfer t l0 l1 l2 l3) s = .next (settlePacer { s1 with mon := m }))
      ∧ (∀ e, l.complete = false → entryOf l.frameStart s.store = some e → e.mode = .live →
        exec (.pixelTransfer t l0 l1 l2 l3) s = .next (settlePacer { s1 with
          mon := m
          store := { s.store with slots := (s.store.slots.map fun x =>
            if x.state = .filling ∧ x.tag = e.tag ∧ x.line = l.number then
              let own := appendPixels e.format e.depth e.plan.win (x.pixels.take x.written) px
              { x with pixels := own ++ x.pixels.drop own.length, written := own.length }
            else x) } })))
  ∧ ∀ (t : Nat) (s : State), s.ctl.phase = .ready → s.mon.state ≠ .noSignal →
    let lines := s.mon.uncompleted ++ awaiting s.mon.line
    exec (.lineComplete t) s = .next (settlePacer { atTime t s with
      mon := { s.mon with
        line := s.mon.line.map fun l => if l.active = true then { l with complete := true } else l
        uncompleted := [] }
      store := { s.store with slots := (s.store.slots.map fun x =>
        if x.state = .filling ∧ ∃ r ∈ lines, ∃ e, entryOf r.frameStart s.store = some e ∧ x.tag = e.tag ∧ x.line = r.number then
          { x with state := .held }
        else x) } })

/-- A change seen at a line start, an active-line start, a pixel or a source frame start in SETTLED (R11) leaves the monitor in
CANDIDATE with the settled values kept as the candidate and no period listed, no record ACTIVE and no plan in force. A frame
that ends before H_in lines is then handled as the candidate rule says: a regular one is the new candidate, an irregular one
leads to MEASURING (R8). At a source frame start the previous frame has ended. A line's pixels and number are compared
unsaturated, also with W_in or H_in at its limit (log 23). The law of the ACTIVE record is assumed (StepKeepsActiveLaw). -/
def Obligations.ChangeEndsThePresentation : Prop :=
  ∀ (t : Nat) (s : State) (l : SourceLine) (f : SourceFrame), s.ActiveLaw → s.ctl.phase = .ready →
    s.mon.state = .settled → s.mon.line = some l → s.mon.frame = some f →
    let changed := fun c => ∃ s', exec c s = .next s' ∧ s'.mon.state = .candidate ∧ s'.mon.periods = []
      ∧ s'.mon.obs = s.mon.obs ∧ NoneActive s'
    (l.active = true → l.width < s.mon.obs.width → changed (.lineStart t))
    ∧ (l.active = false → f.ended = false → 0 < f.lines → min f.lines 4095 < s.mon.obs.height →
        ∃ s', exec (.lineStart t) s = .next s' ∧ s'.mon.periods = [] ∧ NoneActive s'
          ∧ s'.mon.state = (if f.regular then .candidate else .measuring)
          ∧ s'.mon.obs = (if f.regular then takenIn f s.mon.obs else s.mon.obs))
    ∧ (l.active = false → s.mon.obs.height ≤ f.lines → ∀ order, changed (.activeLineStart t order))
    ∧ (l.active = false → f.lines = 16 → ¬near (min (max s.now t - f.line0At) 1048575) s.mon.obs.ls →
        ∀ order, changed (.activeLineStart t order))
    ∧ (l.active = true → ∀ l0 l1 l2 l3 : Option RawPixel,
        s.mon.obs.width < l.width + (l0.toList ++ l1.toList ++ l2.toList ++ l3.toList).length →
        changed (.pixelTransfer t l0 l1 l2 l3))
    ∧ (f.ended = true → ∀ ok format depth vrr,
        ¬(format = s.mon.obs.format ∧ depth = s.mon.obs.depth ∧ vrr = s.mon.obs.vrr) →
        changed (.sourceFrameStart t ok format depth vrr s.mon.obs.game))

/-- A loss (R12), by a fall of SIGNAL_OK outside STARTING or by the expiry of the frame-start timer at its time, in a signal
state: the monitor is as after a reset with the loss latch set, LOST is set, no record is ACTIVE and no plan in force. With
no record ACTIVE before it, nothing else changes but the pacer's rest timer and deadline, evaluated again (R64, R80, log 34);
with one, it is deactivated (R36): a pending live launch is cancelled, its frame counted and signalled as skipped (R74) and the
slots and the entry of the DECIDED frame released (R103); the SCANNING entry goes to FILL_OUT with storing closed (R102); the
record returns to READY; and the pacer leaves LIVE for HOLD, when the hold time is above 0 and the current profile redraw
capable, and otherwise for FREE_RUN (R76). In NO_SIGNAL and STARTING the fall is ignored. The clock is the model's (log 1). -/
def Obligations.LossClearsTheMonitor : Prop :=
  ∀ (t : Nat) (s : State),
    (s.mon.state = .noSignal ∨ s.ctl.phase = .starting →
      exec (.signalOkFall t) s = .next (settlePacer (atTime t s)))
    ∧ (s.mon.state ≠ .noSignal → ∀ c now,
        (c = .signalOkFall t ∧ s.ctl.phase = .ready ∧ now = max s.now t)
          ∨ (∃ e, c = .frameStartTimerExpiry ∧ s.mon.timer = some e ∧ now = max s.now e) →
        let lost := flagged 2 { s with now := now, mon := { State.reset.mon with lossLatch := true } }
        ((∀ r ∈ s.cat, r.state ≠ .active) → exec c s = .next (settlePacer lost))
        ∧ ((∃ r ∈ s.cat, r.state = .active) → ∃ s', exec c s = .next s' ∧ s'.mon = lost.mon
          ∧ NoneActive s' ∧ s'.pacer.pending = none
          ∧ s'.ev.flags = s.ev.flags ||| (if s.pacer.pending.isSome then 0x0084#16 else 0x0004#16)
          ∧ s'.cat = s.cat.map (fun r =>
              if r.state = .active then
                { r with
                  state := .ready
                  stats := if s.pacer.pending.isSome then { r.stats with skipped := more r.stats.skipped } else r.stats }
              else r)
          ∧ s'.store.slots = (match s.pacer.pending, s.store.entries.find? (fun e => e.phase == .decided) with
              | some _, some e => s.store.slots.map fun x =>
                if x.state ≠ .free ∧ x.tag = e.tag then { x with state := .free } else x
              | _, _ => s.store.slots)
          ∧ s'.store.entries = ((if s.pacer.pending.isSome then s.store.entries.filter (fun e => decide (e.phase ≠ .decided))
                else s.store.entries).map fun e =>
              if e.phase = .scanning then { e with mode := .fillOut, storing := false } else e)
          ∧ (0 < s.pacer.holdTime → (currentProfile s).redraw = true →
              s'.pacer.state = .hold ∧ s'.pacer.holdTimer = .running (now + s.pacer.holdTime * 10000000))
          ∧ (s.pacer.holdTime = 0 ∨ (currentProfile s).redraw = false → s'.pacer.state = .freeRun)
          ∧ s'.pacer.last = s.pacer.last ∧ s'.overlay = s.overlay ∧ s'.stage = s.stage ∧ s'.ctl = s.ctl
          ∧ s'.panel.profiles = s.panel.profiles ∧ s'.panel.fill = s.panel.fill ∧ s'.ev.mask = s.ev.mask))

/-! ### Launches and timers -/

/-- LIVE_LAUNCH at the time of the pending live launch (R62, R71, R72). The port begins a LIVE frame at the Lp of the frame's
plan; the last live launch and the last added lag are recorded and no launch is pending; the ACTIVE record counts the frame,
its deferral by class and its worst lag; the figures count the launch. Under a plan in force that predicts, predictions are
scheduled from the launch, and none while a switch is pending or in progress (log 27); otherwise the schedule is empty. A
launch at the very end of a switch ends the switch first (R119), and the switch end's application point follows it (log 19).
An entry still SCANNING is ended (log 42), and a frame on an old profile takes the fields it now holds (log 43). The clock is the model's (log 1). -/
def Obligations.LiveLaunchIsMade : Prop :=
  ∀ (s : State) (x : PendingLaunch), s.pacer.pending = some x →
    let s1 := atTime x.time s
    ((∀ e, s.panel.phase ≠ .switching e) →
      let s2 := launched .live .live x.plan.lp x.time s1
      let s3 := counted (fun c => { c with
          presented := more c.presented
          overrate := if 0 < x.lag ∧ x.cls = some .overrate then more c.overrate else c.overrate
          collisions := if 0 < x.lag ∧ x.cls = some .collision then more c.collisions else c.collisions
          worstLag := max c.worstLag x.lag })
        { s2 with pacer := { s2.pacer with lastLive := some x.time, lastLag := some x.lag, pending := none } }
      exec .liveLaunch s = .next (settlePacer (scheduled
        (match s.plan with
          | some p => if p.predict = true ∧ s.pacer.tracking = .noSwitch then predictions x.time s1 else []
          | none => [])
        (figuresOnLaunch .live s3))))
    ∧ (∀ e, s.panel.phase = .switching e →
      exec .liveLaunch s = .next (settlePacer (applicationPoint (takeLive x (pacerSwitchEnd e (endSwitch e s1))))))

/-- PREDICTED_REDRAW and PERIODIC_LAUNCH of the first entry of the schedule, and FORCED_DEADLINE at the armed deadline (R62,
R63, R64, R66, R73). An entry earlier than e is dropped: removed, not made, not counted. Otherwise the launch is made with
its kind at the Lp of the plan in force in LIVE and at Lp_min otherwise; a predicted redraw and a forced launch are counted.
A forced launch is a REDRAW in HOLD, in LIVE a REDRAW when the current profile is redraw capable and GENERATED otherwise, and
GENERATED in FREE_RUN; it is made at its deadline. In FREE_RUN and HOLD the next periodic launch follows at the later of
L_last + FR and e, after one that was dropped too (log 26). PERIODIC_LAUNCH during a switch in FREE_RUN or HOLD is the launch at
the switch end taken before it (R119): the switch ends at that instant, the launch is made on the new profile, and the switch
end's application point follows (log 19). An entry still SCANNING at a launch is ended (log 42). The clock is the model's (log 1). -/
def Obligations.OtherLaunchesAreMadeOrDropped : Prop :=
  ∀ (s : State),
    (∀ c ∈ [(Instr.predictedRedraw, LaunchReason.predicted), (.periodicLaunch, .periodic)],
      ∀ (x : SchedEntry) (rest : List SchedEntry), s.pacer.schedule = x :: rest → x.reason = c.2 →
        let s1 := scheduled rest (atTime x.time s)
        ((∃ l, s.pacer.last = some l ∧ x.time < l.time + l.spacing) →
          exec c.1 s = .next (settlePacer (scheduled (nextPeriodic s1) s1)))
        ∧ ((∀ l, s.pacer.last = some l → l.time + l.spacing ≤ x.time) →
          let s2 := launched x.kind x.reason (otherPeriod s) x.time s1
          let s3 := if c.2 = .predicted then counted (fun k => { k with predicted := more k.predicted }) s2 else s2
          exec c.1 s = .next (settlePacer (figuresOnLaunch x.kind (scheduled (nextPeriodic s3) s3)))))
    ∧ (∀ d, s.pacer.deadline = some d → s.pacer.state ∈ [.live, .hold, .freeRun] →
        let kind : LaunchKind :=
          if s.pacer.state = .hold ∨ (s.pacer.state = .live ∧ (currentProfile s).redraw = true) then .redraw
          else .generated
        let s2 := counted (fun k => { k with forced := more k.forced })
          (launched kind .forced (otherPeriod s) d (atTime d s))
        exec .forcedDeadline s = .next (settlePacer (figuresOnLaunch kind (scheduled (nextPeriodic s2) s2))))
    ∧ (∀ e, s.panel.phase = .switching e → s.pacer.state ∈ [.freeRun, .hold] → s.pacer.schedule = [] →
        let kind : LaunchKind := if s.pacer.state = .hold then .redraw else .generated
        let s1 := switchOver e (atTime e s)
        let s2 := launched kind .periodic (currentProfile s).lpMin e
          { s1 with pacer := { s1.pacer with tracking := .noSwitch, last := none } }
        let s3 := figuresOnLaunch kind (scheduled (nextPeriodic s2) s2)
        exec .periodicLaunch s = .next (settlePacer
          (if s.stage.groupOpen = true ∨ s.stage.edits = [] then s3 else applyList s.stage.edits s3)))

/-- HOLD_TIMER_EXPIRY in HOLD (R79): FREE_RUN, the timer stopped, and a GENERATED periodic launch at the later of now and e in
place of the periodic REDRAW, or none while a switch is pending or in progress. REST_TIMER_EXPIRY in FREE_RUN (R80, R81):
REST, the schedule emptied, no deadline, the port asked to stop, and REST set. The clock is the model's (log 1). -/
def Obligations.HoldAndRestTimersExpire : Prop :=
  ∀ (s : State) (e : Nat),
    (s.pacer.state = .hold → s.pacer.holdTimer = .running e →
      exec .holdTimerExpiry s = .next (settlePacer
        { s with
          now := max s.now e
          pacer := { s.pacer with
            state := .freeRun
            holdTimer := .stopped
            schedule := if s.pacer.tracking = .noSwitch then
                [{ time := match s.pacer.last with
                    | some l => max (max s.now e) (l.time + l.spacing)
                    | none => max s.now e
                   reason := .periodic, kind := .generated }]
              else [] } }))
    ∧ (s.pacer.state = .freeRun → s.pacer.restTimer = .running e →
      let s1 := portStop (atTime e s)
      ∃ s', exec .restTimerExpiry s = .next s'
        ∧ s' = flagged 12 { s1 with pacer := { s1.pacer with
            state := .rest, schedule := [], deadline := none, restTimer := s'.pacer.restTimer } }
        ∧ ∀ a, s'.pacer.restTimer ≠ .running a)

/-! ### The panel frame -/

/-- PANEL_LINE_START (R95 to R99, R102, R112 to R115, R131, R132) of line y of the frame in progress, at its start time. A
REDRAW sends no components. Otherwise the base line is sent with the windows merged into it, and the windows left out of the
line are counted: the part fill colour in a GENERATED frame; the record fill colour in a LIVE frame without an entry, in
picture mode FILL_OUT, and outside the picture. In the picture the slots below f(j) are released, the picture pixels stand
between fill, and a line with a tap not yet arrived is an underrun line, counted and signalled. At the line after the picture
the entry's HELD slots are released and its storing closes. That the line start of a REDRAW is such a command too is the model's
choice (log 35), and so is a line that stands whole from its start (log 21). The clock is the model's (log 1). -/
def Obligations.PanelLineIsFormed : Prop :=
  ∀ (s : State) (f : PanelFrame), s.panel.state = .lead ∨ s.panel.state = .scan → s.panel.frame = some f →
    f.nextLine < f.hp →
    let y := f.nextLine
    let s1 := atTime (f.launch + ((f.nlead + y) * f.lf + 15) / 16) s
    let frame' := { f with nextLine := y + 1 }
    let sent := fun (s2 : State) (base : List Colour) =>
      let s3 := dropLines (droppedWindows s2 f.wp y) s2
      (.next { s3 with panel := { s3.panel with
        state := .scan
        frame := some frame'
        out := { s3.panel.out with dataEnable := true, line := mergeLine s2 f.wp y base } } } : Outcome)
    (f.kind = .redraw → exec .panelLineStart s = .next { s1 with panel := { s.panel with
        state := .scan
        frame := some frame'
        out := { s.panel.out with dataEnable := false, line := [] } } })
    ∧ (f.kind = .generated → exec .panelLineStart s = sent s1 (List.replicate f.wp s.panel.fill))
    ∧ (f.kind = .live → scanningEntry s.store = none →
        exec .panelLineStart s = sent s1 (List.replicate f.wp f.fill))
    ∧ (∀ e, f.kind = .live → scanningEntry s.store = some e →
        let top := e.plan.yoff
        let bottom := e.plan.yoff + e.plan.hout
        let noted := fun (l : LineStore) => { l with entries := l.entries.map fun x =>
          if x.phase = .scanning then { x with nextLine := y - top + 1 } else x }
        (e.mode = .fillOut → top ≤ y → y < bottom →
          exec .panelLineStart s = sent { s1 with store := noted s.store } (List.replicate f.wp e.fill))
        ∧ (y < top ∨ bottom < y ∨ (e.mode = .fillOut ∧ bottom ≤ y) →
          exec .panelLineStart s = sent s1 (List.replicate f.wp e.fill))
        ∧ (e.mode = .live → y = bottom →
          exec .panelLineStart s = sent
            { s1 with store :=
              { slots := s.store.slots.map fun x =>
                  if x.state = .held ∧ x.tag = e.tag then { x with state := .free } else x
                entries := s.store.entries.map fun x =>
                  if x.start = e.start then { x with storing := false } else x } }
            (List.replicate f.wp e.fill))
        ∧ (e.mode = .live → top ≤ y → y < bottom →
          let j := y - top
          let slots := s.store.slots.map fun x =>
            if x.state ≠ .free ∧ x.tag = e.tag ∧ x.line < j * e.plan.sv / 65536 - 1 then { x with state := .free } else x
          let taps := verticalTaps e.plan j
          let s2 := { s1 with store := noted { s.store with slots := slots } }
          let base := (List.range f.wp).map fun x =>
            if e.plan.xoff ≤ x ∧ x < e.plan.xoff + e.plan.wout then picturePixel e slots j (x - e.plan.xoff) else e.fill
          ((∀ tap ∈ [taps.1, taps.2.1, taps.2.2.1, taps.2.2.2], tapState e slots tap ≠ .notArrived) →
            exec .panelLineStart s = sent s2 base)
          ∧ ((∃ tap ∈ [taps.1, taps.2.1, taps.2.2.1, taps.2.2.2], tapState e slots tap = .notArrived) →
            exec .panelLineStart s
              = sent (flagged 8 (counted (fun c => { c with underrun := more c.underrun }) s2)) base)))

/-- SCAN_END, from LEAD too (log 35) (R104, R115, R116, R147): TRAIL, data-enable and the redraw marker low, and for a LIVE
scan the entry's slots released and the entry removed; then, the line store first (log 18), the application point: it passes
with a group open or the list empty, and applies the whole list otherwise. TRAIL_END: a switch pending with no launch to come
begins; otherwise the port goes IDLE under a pending stop, which it clears (log 15), and BLANK without one (R116, R118, R120).
The clock is the model's (log 1). -/
def Obligations.ScanAndTrailEnd : Prop :=
  ∀ (s : State) (f : PanelFrame), s.panel.frame = some f →
    (s.panel.state = .lead ∨ s.panel.state = .scan →
      let s1 := atTime (f.launch + ((f.nlead + f.hp) * f.lf + 15) / 16) s
      let s2 : State := { s1 with
        panel := { s.panel with
          state := .trail, out := { s.panel.out with dataEnable := false, line := [], redrawMarker := false } }
        store := if f.kind = .live then scanEnded s.store else s.store }
      exec .scanEnd s = .next (settlePacer
        (if s.stage.groupOpen = true ∨ s.stage.edits = [] then s2 else applyList s.stage.edits s2)))
    ∧ (s.panel.state = .trail →
      let end_ := f.launch + ((f.nlead + f.hp + f.nfpMin) * f.lf + 15) / 16
      let s1 := atTime end_ s
      let left := fun (q : PanelPort) => exec .trailEnd s = .next (settlePacer { s1 with panel := { q with frame := none } })
      (s.panel.phase = .noSwitch → s.panel.stopPending = true →
        left { s.panel with state := .idle, stopPending := false })
      ∧ (s.panel.phase = .noSwitch → s.panel.stopPending = false → left { s.panel with state := .blank })
      ∧ (s.panel.phase = .pending true → left { s.panel with state := .blank })
      ∧ (s.panel.phase = .pending false →
        let switched := end_ + (currentProfile s).switchTime
        exec .trailEnd s = .next (settlePacer { s1 with
          panel := { s.panel with
            frame := none, state := .switching, phase := .switching switched, old := none
            out := { s.panel.out with dataEnable := false, line := [] } }
          pacer := { s.pacer with tracking := .switching switched } })))

/-- SWITCH_END at its recorded time (R78, R119, R153): the port goes to BLANK at Lp_min, or to IDLE under a pending stop,
which that clears (log 15); the pacer forgets the last launch, tracks no switch, and in FREE_RUN and HOLD schedules a periodic
launch at the switch end. The switch end is also an application point. With nothing to apply the order does not matter; with
the pacer first the list is applied after it. With the stage first, the application finds the switch phase NONE, and the pacer
goes on following a switch it began (log 14). The clock is the model's (log 1). -/
def Obligations.SwitchEnds : Prop :=
  ∀ (s : State) (e : Nat), s.panel.phase = .switching e →
    let s1 := switchOver e (atTime e s)
    let told := fun (x : State) => { x with pacer := { x.pacer with
      tracking := .noSwitch
      last := none
      schedule := if x.pacer.state = .freeRun ∨ x.pacer.state = .hold then
          [{ time := e, reason := .periodic, kind := if x.pacer.state = .hold then .redraw else .generated }]
        else x.pacer.schedule } }
    (s.stage.groupOpen = true ∨ s.stage.edits = [] →
      ∀ order, exec (.switchEnd order) s = .next (settlePacer (told s1)))
    ∧ (s.stage.groupOpen = false → s.stage.edits ≠ [] →
      exec (.switchEnd false) s = .next (settlePacer (applyList s.stage.edits (told s1)))
      ∧ (let s2 := applyList s.stage.edits s1
        exec (.switchEnd true) s = .next (settlePacer (if s2.panel.phase = .noSwitch then told s2 else s2))))

/-! ### The shared operations -/

/-- A requested lookup (R32, R33, R34) runs only with the monitor SETTLED, the pacer in FREE_RUN or HOLD and no record ACTIVE,
and otherwise leaves no trace. With no candidate UNMATCHED is set and nothing else changes. The first candidate that fits is
made ACTIVE: FIT, activations one more, its plan in force, the pacer in LIVE with the hold timer stopped, ACTIVATED set, and a
switch requested when its profile is not the current one; each before it is UNFIT with its reason. When none fits, every
candidate is UNFIT with its reason and UNFIT is set. The candidates are the records that match, by specificity and then by slot
(R30, R31). -/
def Obligations.LookupActivatesTheFirstThatFits : Prop :=
  CandidateRules ∧ ∀ s : State,
    (¬(s.mon.state = .settled ∧ (s.pacer.state = .freeRun ∨ s.pacer.state = .hold) ∧ ∀ r ∈ s.cat, r.state ≠ .active) →
      requestLookup s = s)
    ∧ (s.mon.state = .settled → (s.pacer.state = .freeRun ∨ s.pacer.state = .hold) → (∀ r ∈ s.cat, r.state ≠ .active) →
      s.cat.length = 48 →
      let cs := candidates s.cat s.mon.obs
      (cs = [] → requestLookup s = flagged 4 s)
      ∧ (cs ≠ [] → (∀ i ∈ cs, ∃ reason, planSlot i s.mon.obs s = .unfit reason) →
        (requestLookup s).ev.flags = s.ev.flags ||| 0x0020#16
          ∧ (∀ i reason, i ∈ cs → planSlot i s.mon.obs s = .unfit reason →
              recordAt (requestLookup s) i = { recordAt s i with fit := .unfit reason })
          ∧ (∀ i, i ∉ cs → recordAt (requestLookup s) i = recordAt s i)
          ∧ { requestLookup s with ev := s.ev, cat := s.cat } = s)
      ∧ (∀ before slot after plan, cs = before ++ slot :: after →
        (∀ i ∈ before, ∃ reason, planSlot i s.mon.obs s = .unfit reason) → planSlot slot s.mon.obs s = .fit plan →
        let s' := requestLookup s
        recordAt s' slot = { recordAt s slot with
            state := .active, fit := .fit plan
            stats := { (recordAt s slot).stats with activations := more (recordAt s slot).stats.activations } }
          ∧ (∀ i reason, i ∈ before → planSlot i s.mon.obs s = .unfit reason →
              recordAt s' i = { recordAt s i with fit := .unfit reason })
          ∧ (∀ i, i ∉ slot :: before → recordAt s' i = recordAt s i)
          ∧ s'.plan = some plan ∧ plan.slot = slot ∧ s'.pacer.state = .live ∧ s'.pacer.holdTimer = .stopped
          ∧ s'.ev.flags = s.ev.flags ||| 0x0008#16 ∧ s'.panel.current = some plan.profile
          ∧ (s.panel.current = some plan.profile →
              s'.panel = s.panel ∧ s'.pacer = { s.pacer with state := .live, holdTimer := .stopped })
          ∧ s'.mon = s.mon ∧ s'.store = s.store ∧ s'.overlay = s.overlay ∧ s'.stage = s.stage ∧ s'.ctl = s.ctl))

/-- One edit carried out by its owner (R25, R26, R37, R38, R121, R126 to R129). A CAT_STORE to a slot not ACTIVE makes it READY
and UNTESTED with statistics 0 and keeps its lock; to the ACTIVE slot it keeps it ACTIVE under the new plan when the content
matches and fits, and otherwise deactivates it and leaves it READY. A CAT_RETIRE empties the slot and keeps its lock, after a
deactivation when it was ACTIVE; on a FREE slot it changes nothing. The window edits and SET_FILL replace what they name; on a
FREE window WIN_PLACE, WIN_SHOW and WIN_RETIRE change nothing. The text a WIN_DEFINE latches, and what a launch latches later,
are spelled with it (R140 to R143; a rate of period 0 is open, log 8). -/
def Obligations.EditsAreCarriedOut : Prop :=
  FiguresRules ∧ ∀ (s : State) (slot win : Nat) (c : Content),
    let r := recordAt s slot
    let w := windowAt s win
    let ready := fun (fit : Fit) =>
      ({ state := .ready, locked := r.locked, content := some c, fit := fit, stats := Stats.zero } : ModeRecord)
    let record := fun (x : ModeRecord) (a : State) => { a with cat := a.cat.set slot x }
    let window := fun (x : Window) => { s with overlay := { s.overlay with windows := s.overlay.windows.set win x } }
    let matches_ := s.mon.state = .settled ∧ s.mon.obs.outOfRange = false ∧ keyMatches c.key s.mon.obs = true
    (r.state ≠ .active → applyEdit (.catStore slot c) s = record (ready .untested) s)
    ∧ (r.state = .active → ¬matches_ → applyEdit (.catStore slot c) s = record (ready .untested) (deactivate s))
    ∧ (∀ reason, r.state = .active → matches_ → planContent slot c s.mon.obs s = .unfit reason →
        applyEdit (.catStore slot c) s = record (ready (.unfit reason)) (deactivate s))
    ∧ (∀ plan, r.state = .active → matches_ → planContent slot c s.mon.obs s = .fit plan →
        let kept : State := { record { state := .active, locked := r.locked, content := some c, fit := .fit plan,
                                       stats := { Stats.zero with activations := 1 } } s with plan := some plan }
        applyEdit (.catStore slot c) s
          = if s.panel.current = some plan.profile then kept else requestSwitch plan.profile kept)
    ∧ (r.state = .free → applyEdit (.catRetire slot) s = s)
    ∧ (r.state = .ready → applyEdit (.catRetire slot) s = record { ModeRecord.free with locked := r.locked } s)
    ∧ (r.state = .active →
        applyEdit (.catRetire slot) s = record { ModeRecord.free with locked := r.locked } (deactivate s))
    ∧ (∀ d, applyEdit (.winDefine win d) s = window
        { state := if w.state = .free then .hidden else w.state, definition := some d, dropped := 0
          text := textOf s d.kind, launches := 0 })
    ∧ (∀ d x y z alpha, w.state ≠ .free → w.definition = some d →
        applyEdit (.winPlace win x y z alpha) s
          = window { w with definition := some { d with x := x, y := y, z := z, alpha := alpha } })
    ∧ (∀ shown, w.state ≠ .free →
        applyEdit (.winShow win shown) s = window { w with state := if shown then .shown else .hidden })
    ∧ (w.state ≠ .free → applyEdit (.winRetire win) s = window Window.free)
    ∧ (w.state = .free → (∀ x y z alpha, applyEdit (.winPlace win x y z alpha) s = s)
        ∧ (∀ shown, applyEdit (.winShow win shown) s = s) ∧ applyEdit (.winRetire win) s = s)
    ∧ ∀ colour, applyEdit (.setFill colour) s = { s with panel := { s.panel with fill := colour } }

/-- An application (R149 to R152) takes the edits in acceptance order, each finding what those before it left, and empties the
list; the group flag stands. In HOLD a visible one takes the pacer to FREE_RUN. With a catalogue edit among them, the monitor
SETTLED, and no record ACTIVE or an ACTIVE one edited, a lookup follows. Then APPLIED is set. Of several SET_FILL edits the
last stands and nothing else changes. In HOLD an application that shows a HIDDEN window takes the pacer to FREE_RUN with the
hold timer stopped; one of SET_FILL edits alone leaves it in HOLD. -/
def Obligations.ApplicationsTakeTheListInOrder : Prop :=
  (∀ (edits : List Edit) (s : State),
    let done := edits.foldl (fun a e => applyEdit e a) s
    let left := { done with stage := { s.stage with edits := [] } }
    let visible := Some_ shows edits s
    let lookedUp := fun (x : State) =>
      Some_ (fun e _ => ∃ slot, ofSlot e slot) edits s → s.mon.state = .settled →
        ((∀ r ∈ x.cat, r.state ≠ .active) ∨ Some_ (fun e a => ∃ slot, ofSlot e slot ∧ (recordAt a slot).state = .active) edits s) →
        applyList edits s = flagged 6 (requestLookup x)
    let passed := fun (x : State) =>
      (¬Some_ (fun e _ => ∃ slot, ofSlot e slot) edits s ∨ s.mon.state ≠ .settled
          ∨ ((∃ r ∈ x.cat, r.state = .active)
            ∧ ¬Some_ (fun e a => ∃ slot, ofSlot e slot ∧ (recordAt a slot).state = .active) edits s)) →
        applyList edits s = flagged 6 x
    (visible → done.pacer.state = .hold → lookedUp (holdToFreeRun left) ∧ passed (holdToFreeRun left))
      ∧ (¬visible ∨ done.pacer.state ≠ .hold → lookedUp left ∧ passed left)
      ∧ (applyList edits s).stage = { s.stage with edits := [] } ∧ (applyList edits s).ev.flags.getLsbD 6 = true
      ∧ ((applyList edits s).overlay = done.overlay)
      ∧ ((applyList edits s).mon = s.mon ∧ (applyList edits s).ctl = s.ctl ∧ (applyList edits s).ev.mask = s.ev.mask
        ∧ (applyList edits s).panel.fill = done.panel.fill))
  ∧ (∀ (before : List Colour) (colour : Colour) (s : State),
    applyList ((before ++ [colour]).map Edit.setFill) s
      = flagged 6 { s with stage := { s.stage with edits := [] }, panel := { s.panel with fill := colour } })
  ∧ ∀ (win : Nat) (s : State), s.pacer.state = .hold → (windowAt s win).state = .hidden → win < s.overlay.windows.length →
    (applyList [.winShow win true] s).pacer.state = .freeRun
      ∧ (applyList [.winShow win true] s).pacer.holdTimer = .stopped
      ∧ (windowAt (applyList [.winShow win true] s) win).state = .shown

/-- A switch request (R118): with no switch, an IDLE, BLANK or SWITCHING port begins the switch at once when no launch is to
come, and waits for the launch otherwise; with a frame in progress the switch waits. During a switch the new request begins
its own switch. A stop (R120): the port goes IDLE at once from BLANK, waits for the frame in progress, and takes nothing from
an IDLE port; with a switch pending or in progress it waits for that, and a launch to come is withdrawn. A withdrawn launch to
come (R118) lets the switch begin at the trail end of the frame in progress, or at once with no frame. Beginning a switch
reports its end to the pacer (R78). -/
def Obligations.SwitchRequestsAndStops : Prop :=
  ∀ (s : State) (p : Nat) (toCome : Bool),
    let begun := fun (a : State) =>
      let end_ := a.now + (profileAt a p).switchTime
      { a with
        panel := { a.panel with
          current := some p, state := .switching, phase := .switching end_, old := none, frame := none
          out := { a.panel.out with dataEnable := false, line := [] } }
        pacer := { a.pacer with tracking := .switching end_ } }
    (s.panel.phase = .noSwitch → s.panel.state ∈ [.idle, .blank] → toCome = false → panelSwitch p toCome s = begun s)
    ∧ (s.panel.phase = .noSwitch → s.panel.state ∈ [.idle, .blank] → toCome = true →
        panelSwitch p toCome s
          = { s with panel := { s.panel with old := s.panel.current, current := some p, phase := .pending true } })
    ∧ (s.panel.phase = .noSwitch → s.panel.state ∈ [.lead, .scan, .trail] →
        panelSwitch p toCome s
          = { s with panel := { s.panel with old := s.panel.current, current := some p, phase := .pending toCome } })
    ∧ (∀ b, s.panel.phase = .pending b → panelSwitch p toCome s
        = { s with panel := { s.panel with current := some p, phase := .pending (b || toCome) } })
    ∧ (∀ e, s.panel.phase = .switching e → panelSwitch p toCome s = begun s)
    ∧ (s.panel.phase = .noSwitch → s.panel.state = .idle → portStop s = s)
    ∧ (s.panel.phase = .noSwitch → s.panel.state = .blank → portStop s = { s with panel := { s.panel with state := .idle } })
    ∧ (s.panel.phase = .noSwitch → s.panel.state ∈ [.lead, .scan, .trail] →
        portStop s = { s with panel := { s.panel with stopPending := true } })
    ∧ (let stopping : State := { s with panel := { s.panel with stopPending := true } }
      let withdrawn := fun (a : State) => { a with panel := { a.panel with phase := .pending false } }
      (s.panel.phase = .pending false → portStop s = stopping)
      ∧ (∀ e, s.panel.phase = .switching e → portStop s = stopping)
      ∧ (s.panel.phase = .pending true → s.panel.frame ≠ none →
          portStop s = withdrawn stopping ∧ withdrawToCome s = withdrawn s)
      ∧ (s.panel.phase = .pending true → s.panel.frame = none → s.panel.current = some p →
          portStop s = begun stopping ∧ withdrawToCome s = begun s)
      ∧ (s.panel.phase ≠ .pending true → withdrawToCome s = s))

/-- The arming of the forced deadline (R64) and the rest timer (R80) as `settlePacer` evaluates them, which the model does at
the end of the commands that log 34 names: armed at L_last + Tmax exactly when the pacer makes launches, a last launch is
recorded, no switch is tracked, no launch is due at or before it, it has not passed, and it is not earlier than e (R63, log 41);
a rest timer that is not stopped runs exactly in FREE_RUN with the monitor in NO_SIGNAL and a rest time above 0. Nothing else
changes. -/
def Obligations.DeadlineArmsAndRestTimerRuns : Prop :=
  ∀ s : State,
    (∃ d t, settlePacer s = { s with pacer := { s.pacer with deadline := d, restTimer := t } })
    ∧ (∀ d, (settlePacer s).pacer.deadline = some d ↔
        s.pacer.state ∈ [.live, .hold, .freeRun] ∧ (∃ l, s.pacer.last = some l ∧ d = l.time + (currentProfile s).tmax ∧ l.time + l.spacing ≤ d)
          ∧ s.pacer.tracking = .noSwitch ∧ (∀ x, s.pacer.pending = some x → d < x.time)
          ∧ (∀ x ∈ s.pacer.schedule, d < x.time) ∧ s.now ≤ d)
    ∧ ((settlePacer s).pacer.restTimer = .stopped ↔ s.pacer.restTimer = .stopped)
    ∧ ((∃ e, (settlePacer s).pacer.restTimer = .running e) ↔
        s.pacer.restTimer ≠ .stopped ∧ s.pacer.state = .freeRun ∧ s.mon.state = .noSignal ∧ s.pacer.restTime ≠ 0)
    ∧ (settlePacer s).pacer.restTimer.left s.now = s.pacer.restTimer.left s.now

/-- A plan that fits (R47 to R59) names its slot and the record's profile; its picture lies on the panel and within the ratio
bounds of its source; its line period lies between Lp_min and Lp_max; its depth is at most 128 lines, with the slack the
rest; its limit is at most the lag ceiling and at most what the slack allows; its launch wait is never negative, and its
launches at Tmin. -/
def Obligations.FitPlansKeepTheirBounds : Prop :=
  ∀ (slot win hin ls slead : Nat) (c : Content) (q : Profile) (p : Plan),
    planFor slot win hin ls slead c q = .fit p →
      q.valid = true ∧ p.slot = slot ∧ p.profile = c.present.profile ∧ p.win = win ∧ p.hin = hin
        ∧ p.xoff + p.wout ≤ q.wp ∧ p.yoff + p.hout ≤ q.hp
        ∧ win ≤ 2 * p.wout ∧ p.wout ≤ 4 * win ∧ hin ≤ 2 * p.hout ∧ p.hout ≤ 4 * hin
        ∧ (q.lpMin ≤ q.lpMax → q.lpMin ≤ p.lp ∧ p.lp ≤ q.lpMax)
        ∧ p.q ≤ 128 ∧ p.slack = 128 - p.q ∧ 16 * p.amax ≤ p.slack * ls ∧ p.limit ≤ p.amax
        ∧ p.limit ≤ c.pacing.ceiling ∧ p.tmin = spacingOf q p.lp ∧ p.de = (p.w : Int) + p.plead - slead ∧ p.d ≤ p.de
        ∧ (p.predict = true → c.pacing.redraw = .predict ∧ q.redraw = true ∧ 2 * p.tmin ≤ q.tmax)

/-- How pixels are stored (R92), picture pixels filtered (R97 to R100), window pixels found and merged (R133, R134, R139, R140) and
lines sent (R113, R182). Pixels stay pixels: a component widened from depth 8 or taken at depth 10 lies in 0..1023; each
pass of the filter gives 0..1023, and at phase 0 passes its second tap through; two components in 0..1023 blend to one in
0..1023, alpha 16 gives the window's and alpha 0 leaves the picture's. -/
def Obligations.ComponentsStayInRange : Prop :=
  StoredPixelRules ∧ PicturePixelRules ∧ WindowPixelRules ∧ TransferRules
    ∧ (∀ wires : BitVec 10, widen .d8 wires ≤ 1023 ∧ widen .d10 wires ≤ 1023
      ∧ widen .d8 wires / 4 = wires.toNat / 4 ∧ widen .d8 wires % 4 = wires.toNat / 256)
    ∧ (∀ phase t0 t1 t2 t3 : Nat, filterTaps phase t0 t1 t2 t3 ≤ 1023
        ∧ (t1 ≤ 1023 → filterTaps 0 t0 t1 t2 t3 = t1) ∧ (t1 ≤ 1023 → filterTaps phase t1 t1 t1 t1 = t1))
    ∧ (∀ alpha ov pic : Nat, alpha ≤ 16 → ov ≤ 1023 → pic ≤ 1023 →
        blendComponent alpha ov pic ≤ 1023 ∧ blendComponent 16 ov pic = ov ∧ blendComponent 0 ov pic = pic)

/-- The windows of a panel line (R124, R131, R132). A window is ranked exactly when it is SHOWN, its binding is NONE or an
ACTIVE slot, and the line crosses it on the panel; the ranking goes by larger z, and by the higher number among equals; the
first four are merged and the others dropped. The merge takes the chosen from the lowest-ranked up, each on what those below
it left (R134). Each dropped window's counter rises by one, saturating, CLIPPED is set, and nothing else changes (R132). -/
def Obligations.WindowsAreRanked : Prop :=
  ∀ (s : State) (wp y : Nat), (∀ w ∈ s.overlay.windows, ∀ d, w.definition = some d → d.z ≤ 15) →
    (∀ n, n ∈ rankedWindows s wp y ↔
      n < 16 ∧ ∃ d, (windowAt s n).state = .shown ∧ (windowAt s n).definition = some d
        ∧ (∀ slot, d.binding = some slot → (recordAt s slot).state = .active)
        ∧ d.y ≤ y ∧ y < d.y + d.h ∧ d.x < wp)
    ∧ (rankedWindows s wp y).Pairwise (fun a b => ∀ da db, (windowAt s a).definition = some da →
        (windowAt s b).definition = some db → db.z < da.z ∨ (da.z = db.z ∧ b < a))
    ∧ mergedWindows s wp y ++ droppedWindows s wp y = rankedWindows s wp y ∧ (mergedWindows s wp y).length ≤ 4
    ∧ (droppedWindows s wp y ≠ [] → (mergedWindows s wp y).length = 4)
    ∧ (∀ base : List Colour, (mergeLine s wp y base).length = base.length
        ∧ ∀ (x : Nat) (pic : Colour), base[x]? = some pic →
          (mergeLine s wp y base)[x]? = some ((mergedWindows s wp y).foldr
            (fun n under => mergePixel s.overlay.image (windowAt s n) x y under) pic))
    ∧ (s.overlay.windows.length = 16 →
        let dropped := droppedWindows s wp y
        dropLines dropped s = { s with
          overlay := { s.overlay with windows := (List.range 16).map fun n =>
            if n ∈ dropped then { windowAt s n with dropped := min 65535 ((windowAt s n).dropped + 1) } else windowAt s n }
          ev := { s.ev with flags := if dropped = [] then s.ev.flags else s.ev.flags ||| 0x0400#16 } })

/-! ### The laws every step keeps -/

/-- Every step keeps the law of the ACTIVE record (R35) with the plan in force (R45): at most one record is ACTIVE, and while
one is the pacer is in LIVE, the monitor SETTLED, the observation matches it, and the plan in force names its slot. -/
def Obligations.StepKeepsActiveLaw : Prop :=
  ∀ s s' : State, s.ActiveLaw → step s = .next s' → s'.ActiveLaw

/-- Every step keeps the bounds: requests held and replies waiting at most 8, none queued while none is in processing (R163,
R164); at most 16 staged edits (R146); image memory in its one form (R135, the model's form); the tables' sizes, and at most
four periods (R14, R88, R106, R123). -/
def Obligations.StepKeepsBoundsLaw : Prop :=
  ∀ s s' : State, s.BoundsLaw → step s = .next s' → s'.BoundsLaw

/-- Every step keeps the cleared monitor of NO_SIGNAL (R5, R6, R12): while the state is NO_SIGNAL the observation holds its
cleared values, no period is listed, and no frame, line or timer is kept; the loss latch alone is free. -/
def Obligations.StepKeepsNoSignalCleared : Prop :=
  ∀ s s' : State, ClearedInNoSignal s → step s = .next s' → ClearedInNoSignal s'

/-- The state right after reset meets the laws that every step keeps. -/
def Obligations.ResetMeetsTheLaws : Prop :=
  State.reset.ActiveLaw ∧ State.reset.BoundsLaw ∧ ClearedInNoSignal State.reset
end

