-- ==== Sys2Proof/Laws/State.lean ====
section
/-! SUPPORT. One lemma per field of the state and per block replaced: no later proof unfolds a record update. -/

namespace Sys2Proof.Machine

/-! ### State.setMon -/

@[simp] theorem setMon_now (s : State) (m : Monitor) : (s.setMon m).now = s.now := rfl
@[simp] theorem setMon_pending (s : State) (m : Monitor) : (s.setMon m).pending = s.pending := rfl
@[simp] theorem setMon_mon (s : State) (m : Monitor) : (s.setMon m).mon = m := rfl
@[simp] theorem setMon_cat (s : State) (m : Monitor) : (s.setMon m).cat = s.cat := rfl
@[simp] theorem setMon_plan (s : State) (m : Monitor) : (s.setMon m).plan = s.plan := rfl
@[simp] theorem setMon_pacer (s : State) (m : Monitor) : (s.setMon m).pacer = s.pacer := rfl
@[simp] theorem setMon_store (s : State) (m : Monitor) : (s.setMon m).store = s.store := rfl
@[simp] theorem setMon_panel (s : State) (m : Monitor) : (s.setMon m).panel = s.panel := rfl
@[simp] theorem setMon_overlay (s : State) (m : Monitor) : (s.setMon m).overlay = s.overlay := rfl
@[simp] theorem setMon_stage (s : State) (m : Monitor) : (s.setMon m).stage = s.stage := rfl
@[simp] theorem setMon_ctl (s : State) (m : Monitor) : (s.setMon m).ctl = s.ctl := rfl
@[simp] theorem setMon_ev (s : State) (m : Monitor) : (s.setMon m).ev = s.ev := rfl

/-! ### State.setCat -/

@[simp] theorem setCat_now (s : State) (c : List ModeRecord) : (s.setCat c).now = s.now := rfl
@[simp] theorem setCat_pending (s : State) (c : List ModeRecord) : (s.setCat c).pending = s.pending := rfl
@[simp] theorem setCat_mon (s : State) (c : List ModeRecord) : (s.setCat c).mon = s.mon := rfl
@[simp] theorem setCat_cat (s : State) (c : List ModeRecord) : (s.setCat c).cat = c := rfl
@[simp] theorem setCat_plan (s : State) (c : List ModeRecord) : (s.setCat c).plan = s.plan := rfl
@[simp] theorem setCat_pacer (s : State) (c : List ModeRecord) : (s.setCat c).pacer = s.pacer := rfl
@[simp] theorem setCat_store (s : State) (c : List ModeRecord) : (s.setCat c).store = s.store := rfl
@[simp] theorem setCat_panel (s : State) (c : List ModeRecord) : (s.setCat c).panel = s.panel := rfl
@[simp] theorem setCat_overlay (s : State) (c : List ModeRecord) : (s.setCat c).overlay = s.overlay := rfl
@[simp] theorem setCat_stage (s : State) (c : List ModeRecord) : (s.setCat c).stage = s.stage := rfl
@[simp] theorem setCat_ctl (s : State) (c : List ModeRecord) : (s.setCat c).ctl = s.ctl := rfl
@[simp] theorem setCat_ev (s : State) (c : List ModeRecord) : (s.setCat c).ev = s.ev := rfl

/-! ### State.setPlan -/

@[simp] theorem setPlan_now (s : State) (p : Option Plan) : (s.setPlan p).now = s.now := rfl
@[simp] theorem setPlan_pending (s : State) (p : Option Plan) : (s.setPlan p).pending = s.pending := rfl
@[simp] theorem setPlan_mon (s : State) (p : Option Plan) : (s.setPlan p).mon = s.mon := rfl
@[simp] theorem setPlan_cat (s : State) (p : Option Plan) : (s.setPlan p).cat = s.cat := rfl
@[simp] theorem setPlan_plan (s : State) (p : Option Plan) : (s.setPlan p).plan = p := rfl
@[simp] theorem setPlan_pacer (s : State) (p : Option Plan) : (s.setPlan p).pacer = s.pacer := rfl
@[simp] theorem setPlan_store (s : State) (p : Option Plan) : (s.setPlan p).store = s.store := rfl
@[simp] theorem setPlan_panel (s : State) (p : Option Plan) : (s.setPlan p).panel = s.panel := rfl
@[simp] theorem setPlan_overlay (s : State) (p : Option Plan) : (s.setPlan p).overlay = s.overlay := rfl
@[simp] theorem setPlan_stage (s : State) (p : Option Plan) : (s.setPlan p).stage = s.stage := rfl
@[simp] theorem setPlan_ctl (s : State) (p : Option Plan) : (s.setPlan p).ctl = s.ctl := rfl
@[simp] theorem setPlan_ev (s : State) (p : Option Plan) : (s.setPlan p).ev = s.ev := rfl

/-! ### State.setPacer -/

@[simp] theorem setPacer_now (s : State) (p : Pacer) : (s.setPacer p).now = s.now := rfl
@[simp] theorem setPacer_pending (s : State) (p : Pacer) : (s.setPacer p).pending = s.pending := rfl
@[simp] theorem setPacer_mon (s : State) (p : Pacer) : (s.setPacer p).mon = s.mon := rfl
@[simp] theorem setPacer_cat (s : State) (p : Pacer) : (s.setPacer p).cat = s.cat := rfl
@[simp] theorem setPacer_plan (s : State) (p : Pacer) : (s.setPacer p).plan = s.plan := rfl
@[simp] theorem setPacer_pacer (s : State) (p : Pacer) : (s.setPacer p).pacer = p := rfl
@[simp] theorem setPacer_store (s : State) (p : Pacer) : (s.setPacer p).store = s.store := rfl
@[simp] theorem setPacer_panel (s : State) (p : Pacer) : (s.setPacer p).panel = s.panel := rfl
@[simp] theorem setPacer_overlay (s : State) (p : Pacer) : (s.setPacer p).overlay = s.overlay := rfl
@[simp] theorem setPacer_stage (s : State) (p : Pacer) : (s.setPacer p).stage = s.stage := rfl
@[simp] theorem setPacer_ctl (s : State) (p : Pacer) : (s.setPacer p).ctl = s.ctl := rfl
@[simp] theorem setPacer_ev (s : State) (p : Pacer) : (s.setPacer p).ev = s.ev := rfl

/-! ### State.setStore -/

@[simp] theorem setStore_now (s : State) (l : LineStore) : (s.setStore l).now = s.now := rfl
@[simp] theorem setStore_pending (s : State) (l : LineStore) : (s.setStore l).pending = s.pending := rfl
@[simp] theorem setStore_mon (s : State) (l : LineStore) : (s.setStore l).mon = s.mon := rfl
@[simp] theorem setStore_cat (s : State) (l : LineStore) : (s.setStore l).cat = s.cat := rfl
@[simp] theorem setStore_plan (s : State) (l : LineStore) : (s.setStore l).plan = s.plan := rfl
@[simp] theorem setStore_pacer (s : State) (l : LineStore) : (s.setStore l).pacer = s.pacer := rfl
@[simp] theorem setStore_store (s : State) (l : LineStore) : (s.setStore l).store = l := rfl
@[simp] theorem setStore_panel (s : State) (l : LineStore) : (s.setStore l).panel = s.panel := rfl
@[simp] theorem setStore_overlay (s : State) (l : LineStore) : (s.setStore l).overlay = s.overlay := rfl
@[simp] theorem setStore_stage (s : State) (l : LineStore) : (s.setStore l).stage = s.stage := rfl
@[simp] theorem setStore_ctl (s : State) (l : LineStore) : (s.setStore l).ctl = s.ctl := rfl
@[simp] theorem setStore_ev (s : State) (l : LineStore) : (s.setStore l).ev = s.ev := rfl

/-! ### State.setPanel -/

@[simp] theorem setPanel_now (s : State) (p : PanelPort) : (s.setPanel p).now = s.now := rfl
@[simp] theorem setPanel_pending (s : State) (p : PanelPort) : (s.setPanel p).pending = s.pending := rfl
@[simp] theorem setPanel_mon (s : State) (p : PanelPort) : (s.setPanel p).mon = s.mon := rfl
@[simp] theorem setPanel_cat (s : State) (p : PanelPort) : (s.setPanel p).cat = s.cat := rfl
@[simp] theorem setPanel_plan (s : State) (p : PanelPort) : (s.setPanel p).plan = s.plan := rfl
@[simp] theorem setPanel_pacer (s : State) (p : PanelPort) : (s.setPanel p).pacer = s.pacer := rfl
@[simp] theorem setPanel_store (s : State) (p : PanelPort) : (s.setPanel p).store = s.store := rfl
@[simp] theorem setPanel_panel (s : State) (p : PanelPort) : (s.setPanel p).panel = p := rfl
@[simp] theorem setPanel_overlay (s : State) (p : PanelPort) : (s.setPanel p).overlay = s.overlay := rfl
@[simp] theorem setPanel_stage (s : State) (p : PanelPort) : (s.setPanel p).stage = s.stage := rfl
@[simp] theorem setPanel_ctl (s : State) (p : PanelPort) : (s.setPanel p).ctl = s.ctl := rfl
@[simp] theorem setPanel_ev (s : State) (p : PanelPort) : (s.setPanel p).ev = s.ev := rfl

/-! ### State.setOverlay -/

@[simp] theorem setOverlay_now (s : State) (o : Overlay) : (s.setOverlay o).now = s.now := rfl
@[simp] theorem setOverlay_pending (s : State) (o : Overlay) : (s.setOverlay o).pending = s.pending := rfl
@[simp] theorem setOverlay_mon (s : State) (o : Overlay) : (s.setOverlay o).mon = s.mon := rfl
@[simp] theorem setOverlay_cat (s : State) (o : Overlay) : (s.setOverlay o).cat = s.cat := rfl
@[simp] theorem setOverlay_plan (s : State) (o : Overlay) : (s.setOverlay o).plan = s.plan := rfl
@[simp] theorem setOverlay_pacer (s : State) (o : Overlay) : (s.setOverlay o).pacer = s.pacer := rfl
@[simp] theorem setOverlay_store (s : State) (o : Overlay) : (s.setOverlay o).store = s.store := rfl
@[simp] theorem setOverlay_panel (s : State) (o : Overlay) : (s.setOverlay o).panel = s.panel := rfl
@[simp] theorem setOverlay_overlay (s : State) (o : Overlay) : (s.setOverlay o).overlay = o := rfl
@[simp] theorem setOverlay_stage (s : State) (o : Overlay) : (s.setOverlay o).stage = s.stage := rfl
@[simp] theorem setOverlay_ctl (s : State) (o : Overlay) : (s.setOverlay o).ctl = s.ctl := rfl
@[simp] theorem setOverlay_ev (s : State) (o : Overlay) : (s.setOverlay o).ev = s.ev := rfl

/-! ### State.setStage -/

@[simp] theorem setStage_now (s : State) (g : Stage) : (s.setStage g).now = s.now := rfl
@[simp] theorem setStage_pending (s : State) (g : Stage) : (s.setStage g).pending = s.pending := rfl
@[simp] theorem setStage_mon (s : State) (g : Stage) : (s.setStage g).mon = s.mon := rfl
@[simp] theorem setStage_cat (s : State) (g : Stage) : (s.setStage g).cat = s.cat := rfl
@[simp] theorem setStage_plan (s : State) (g : Stage) : (s.setStage g).plan = s.plan := rfl
@[simp] theorem setStage_pacer (s : State) (g : Stage) : (s.setStage g).pacer = s.pacer := rfl
@[simp] theorem setStage_store (s : State) (g : Stage) : (s.setStage g).store = s.store := rfl
@[simp] theorem setStage_panel (s : State) (g : Stage) : (s.setStage g).panel = s.panel := rfl
@[simp] theorem setStage_overlay (s : State) (g : Stage) : (s.setStage g).overlay = s.overlay := rfl
@[simp] theorem setStage_stage (s : State) (g : Stage) : (s.setStage g).stage = g := rfl
@[simp] theorem setStage_ctl (s : State) (g : Stage) : (s.setStage g).ctl = s.ctl := rfl
@[simp] theorem setStage_ev (s : State) (g : Stage) : (s.setStage g).ev = s.ev := rfl

/-! ### State.setCtl -/

@[simp] theorem setCtl_now (s : State) (c : ControlPort) : (s.setCtl c).now = s.now := rfl
@[simp] theorem setCtl_pending (s : State) (c : ControlPort) : (s.setCtl c).pending = s.pending := rfl
@[simp] theorem setCtl_mon (s : State) (c : ControlPort) : (s.setCtl c).mon = s.mon := rfl
@[simp] theorem setCtl_cat (s : State) (c : ControlPort) : (s.setCtl c).cat = s.cat := rfl
@[simp] theorem setCtl_plan (s : State) (c : ControlPort) : (s.setCtl c).plan = s.plan := rfl
@[simp] theorem setCtl_pacer (s : State) (c : ControlPort) : (s.setCtl c).pacer = s.pacer := rfl
@[simp] theorem setCtl_store (s : State) (c : ControlPort) : (s.setCtl c).store = s.store := rfl
@[simp] theorem setCtl_panel (s : State) (c : ControlPort) : (s.setCtl c).panel = s.panel := rfl
@[simp] theorem setCtl_overlay (s : State) (c : ControlPort) : (s.setCtl c).overlay = s.overlay := rfl
@[simp] theorem setCtl_stage (s : State) (c : ControlPort) : (s.setCtl c).stage = s.stage := rfl
@[simp] theorem setCtl_ctl (s : State) (c : ControlPort) : (s.setCtl c).ctl = c := rfl
@[simp] theorem setCtl_ev (s : State) (c : ControlPort) : (s.setCtl c).ev = s.ev := rfl

/-! ### State.setEv -/

@[simp] theorem setEv_now (s : State) (e : EventUnit) : (s.setEv e).now = s.now := rfl
@[simp] theorem setEv_pending (s : State) (e : EventUnit) : (s.setEv e).pending = s.pending := rfl
@[simp] theorem setEv_mon (s : State) (e : EventUnit) : (s.setEv e).mon = s.mon := rfl
@[simp] theorem setEv_cat (s : State) (e : EventUnit) : (s.setEv e).cat = s.cat := rfl
@[simp] theorem setEv_plan (s : State) (e : EventUnit) : (s.setEv e).plan = s.plan := rfl
@[simp] theorem setEv_pacer (s : State) (e : EventUnit) : (s.setEv e).pacer = s.pacer := rfl
@[simp] theorem setEv_store (s : State) (e : EventUnit) : (s.setEv e).store = s.store := rfl
@[simp] theorem setEv_panel (s : State) (e : EventUnit) : (s.setEv e).panel = s.panel := rfl
@[simp] theorem setEv_overlay (s : State) (e : EventUnit) : (s.setEv e).overlay = s.overlay := rfl
@[simp] theorem setEv_stage (s : State) (e : EventUnit) : (s.setEv e).stage = s.stage := rfl
@[simp] theorem setEv_ctl (s : State) (e : EventUnit) : (s.setEv e).ctl = s.ctl := rfl
@[simp] theorem setEv_ev (s : State) (e : EventUnit) : (s.setEv e).ev = e := rfl

/-! ### tick -/

@[simp] theorem tick_now (t : Nat) (s : State) : (tick t s).now = max s.now t := rfl
@[simp] theorem tick_pending (t : Nat) (s : State) : (tick t s).pending = s.pending := rfl
@[simp] theorem tick_mon (t : Nat) (s : State) : (tick t s).mon = s.mon := rfl
@[simp] theorem tick_cat (t : Nat) (s : State) : (tick t s).cat = s.cat := rfl
@[simp] theorem tick_plan (t : Nat) (s : State) : (tick t s).plan = s.plan := rfl
@[simp] theorem tick_pacer (t : Nat) (s : State) : (tick t s).pacer = s.pacer := rfl
@[simp] theorem tick_store (t : Nat) (s : State) : (tick t s).store = s.store := rfl
@[simp] theorem tick_panel (t : Nat) (s : State) : (tick t s).panel = s.panel := rfl
@[simp] theorem tick_overlay (t : Nat) (s : State) : (tick t s).overlay = s.overlay := rfl
@[simp] theorem tick_stage (t : Nat) (s : State) : (tick t s).stage = s.stage := rfl
@[simp] theorem tick_ctl (t : Nat) (s : State) : (tick t s).ctl = s.ctl := rfl
@[simp] theorem tick_ev (t : Nat) (s : State) : (tick t s).ev = s.ev := rfl

end Sys2Proof.Machine
end

