-- ==== Sys2Proof/Laws/Store.lean ====
section
/-! SUPPORT. What the line store's operations keep of the slot table and of the frame entries. -/

namespace Sys2Proof.Machine

@[simp] theorem releaseSlots_slots_length (pick : LineSlot → Bool) (l : LineStore) :
    (releaseSlots pick l).slots.length = l.slots.length := by simp [releaseSlots]

@[simp] theorem releaseSlots_entries (pick : LineSlot → Bool) (l : LineStore) :
    (releaseSlots pick l).entries = l.entries := rfl

@[simp] theorem releaseTag_slots_length (tag : Tag) (l : LineStore) :
    (releaseTag tag l).slots.length = l.slots.length := by simp [releaseTag]

@[simp] theorem releaseTag_entries (tag : Tag) (l : LineStore) : (releaseTag tag l).entries = l.entries := rfl

@[simp] theorem mapEntries_slots (pick : FrameEntry → Bool) (f : FrameEntry → FrameEntry) (l : LineStore) :
    (mapEntries pick f l).slots = l.slots := rfl

@[simp] theorem mapEntries_entries_length (pick : FrameEntry → Bool) (f : FrameEntry → FrameEntry) (l : LineStore) :
    (mapEntries pick f l).entries.length = l.entries.length := by simp [mapEntries]

@[simp] theorem createEntry_slots (start : Nat) (plan : Plan) (fill : Colour) (format : Format) (depth : Depth)
    (l : LineStore) : (createEntry start plan fill format depth l).slots = l.slots := rfl

@[simp] theorem bindEntry_slots (l : LineStore) : (bindEntry l).slots = l.slots := rfl

@[simp] theorem closeStoring_slots (start : Nat) (l : LineStore) : (closeStoring start l).slots = l.slots := rfl

@[simp] theorem fillOut_slots (l : LineStore) : (fillOut l).slots = l.slots := rfl

@[simp] theorem withdrawEntry_slots_length (l : LineStore) : (withdrawEntry l).slots.length = l.slots.length := by
  unfold withdrawEntry
  split <;> simp

@[simp] theorem endScan_slots_length (l : LineStore) : (endScan l).slots.length = l.slots.length := by
  unfold endScan
  split <;> simp

/-- Without a SCANNING entry a scan end leaves the store as it is. -/
theorem endScan_of_none {l : LineStore} (h : scanningEntry l = none) : endScan l = l := by simp [endScan, h]

/-- After a scan end no entry is SCANNING (R104). -/
theorem scanningEntry_endScan (l : LineStore) : scanningEntry (endScan l) = none := by
  unfold endScan
  split
  · simp [scanningEntry]
  · assumption

/-- What taking a slot does: the first FREE slot is FILLING for the line, with nothing of it written and its former pixels
kept, and no other slot changes (R88, R91). -/
theorem takeSlot_spec {tag : Tag} {line : Nat} {xs ys : List LineSlot} (h : takeSlot tag line xs = some ys) :
    ∃ before x after, xs = before ++ x :: after ∧ (∀ y ∈ before, y.occupied = true) ∧ x.occupied = false
      ∧ ys = before ++ { x with state := .filling, tag := tag, line := line, written := 0 } :: after := by
  induction xs generalizing ys with
  | nil => simp [takeSlot] at h
  | cons x xs ih =>
    unfold takeSlot at h
    split at h
    · obtain ⟨zs, hz, rfl⟩ := Option.map_eq_some_iff.mp h
      obtain ⟨before, y, after, rfl, hb, hy, rfl⟩ := ih hz
      exact ⟨x :: before, y, after, rfl, by simpa [*] using hb, hy, rfl⟩
    · cases h
      exact ⟨[], x, xs, rfl, by simp, Bool.eq_false_iff.mpr (by assumption), rfl⟩

/-- A slot is refused exactly when every slot is occupied (R89, R91). -/
theorem takeSlot_eq_none {tag : Tag} {line : Nat} {xs : List LineSlot} :
    takeSlot tag line xs = none ↔ ∀ x ∈ xs, x.occupied = true := by
  induction xs with
  | nil => simp [takeSlot]
  | cons x xs ih => cases h : x.occupied <;> simp [takeSlot, h, ih]

/-- A slot taken for a line replaces one of the table's: the table keeps its size. -/
theorem takeSlot_length {tag : Tag} {line : Nat} {xs ys : List LineSlot} (h : takeSlot tag line xs = some ys) :
    ys.length = xs.length := by
  obtain ⟨_, _, _, rfl, _, _, rfl⟩ := takeSlot_spec h
  simp

/-- What a line has written of its slot, after a transfer: what it had, and the transfer's pixels (R92). -/
@[simp] theorem LineSlot.write_own (format : Format) (depth : Depth) (win : Nat) (ps : List RawPixel) (x : LineSlot) :
    (x.write format depth win ps).own = appendPixels format depth win x.own ps := by
  simp [LineSlot.write, LineSlot.own]

@[simp] theorem LineSlot.write_state (format : Format) (depth : Depth) (win : Nat) (ps : List RawPixel) (x : LineSlot) :
    (x.write format depth win ps).state = x.state ∧ (x.write format depth win ps).tag = x.tag
      ∧ (x.write format depth win ps).line = x.line := ⟨rfl, rfl, rfl⟩

@[simp] theorem arriveLine_slots_length (start i : Nat) (l : LineStore) :
    (arriveLine start i l).1.slots.length = l.slots.length := by
  unfold arriveLine
  split
  · rfl
  · dsimp only
    split
    · rfl
    · split
      · exact takeSlot_length (by assumption)
      · rfl

@[simp] theorem storePixels_slots_length (start i : Nat) (ps : List RawPixel) (l : LineStore) :
    (storePixels start i ps l).slots.length = l.slots.length := by
  unfold storePixels
  split
  · rfl
  · split <;> simp

@[simp] theorem completeLine_slots_length (start i : Nat) (l : LineStore) :
    (completeLine start i l).slots.length = l.slots.length := by
  unfold completeLine
  split <;> simp

@[simp] theorem releaseBelow_slots_length (e : FrameEntry) (j : Nat) (l : LineStore) :
    (releaseBelow e j l).slots.length = l.slots.length := by simp [releaseBelow]

@[simp] theorem endPicture_slots_length (e : FrameEntry) (l : LineStore) :
    (endPicture e l).slots.length = l.slots.length := by simp [endPicture]

@[simp] theorem notePictureLine_slots (j : Nat) (l : LineStore) : (notePictureLine j l).slots = l.slots := rfl

@[simp] theorem storePanelLine_slots_length (e : FrameEntry) (wp y : Nat) (l : LineStore) :
    (storePanelLine e wp y l).1.slots.length = l.slots.length := by
  unfold storePanelLine
  dsimp only
  split
  · split <;> rfl
  · split
    · simp
    · split <;> simp

@[simp] theorem completeLines_slots_length (rs : List LineRef) (l : LineStore) :
    (completeLines rs l).slots.length = l.slots.length := by
  induction rs generalizing l with
  | nil => rfl
  | cons r rs ih => exact (ih _).trans (completeLine_slots_length _ _ _)

end Sys2Proof.Machine
end

