-- ==== Sys2Proof/Laws/Frames.lean ====
section
/-! SUPPORT. The frame of every shared operation: what it leaves as it was. One lemma for each, cited instead of unfolding
it. -/

namespace Sys2Proof.Machine

/-! ### The tables -/

@[simp] theorem setRecord_frame (slot : Nat) (r : ModeRecord) (s : State) :
    (setRecord slot r s).now = s.now ∧ (setRecord slot r s).pending = s.pending ∧ (setRecord slot r s).mon = s.mon
      ∧ (setRecord slot r s).plan = s.plan ∧ (setRecord slot r s).pacer = s.pacer
      ∧ (setRecord slot r s).store = s.store ∧ (setRecord slot r s).panel = s.panel
      ∧ (setRecord slot r s).overlay = s.overlay ∧ (setRecord slot r s).stage = s.stage
      ∧ (setRecord slot r s).ctl = s.ctl ∧ (setRecord slot r s).ev = s.ev
      ∧ (setRecord slot r s).cat.length = s.cat.length := by
  simp [setRecord]

@[simp] theorem setWindow_frame (win : Nat) (w : Window) (s : State) :
    (setWindow win w s).now = s.now ∧ (setWindow win w s).pending = s.pending ∧ (setWindow win w s).mon = s.mon
      ∧ (setWindow win w s).cat = s.cat ∧ (setWindow win w s).plan = s.plan ∧ (setWindow win w s).pacer = s.pacer
      ∧ (setWindow win w s).store = s.store ∧ (setWindow win w s).panel = s.panel
      ∧ (setWindow win w s).stage = s.stage ∧ (setWindow win w s).ctl = s.ctl ∧ (setWindow win w s).ev = s.ev
      ∧ (setWindow win w s).overlay.image = s.overlay.image
      ∧ (setWindow win w s).overlay.writePtr = s.overlay.writePtr
      ∧ (setWindow win w s).overlay.windows.length = s.overlay.windows.length := by
  simp [setWindow]

@[simp] theorem report_frame (f : Stats → Stats) (s : State) :
    (report f s).now = s.now ∧ (report f s).pending = s.pending ∧ (report f s).mon = s.mon
      ∧ (report f s).plan = s.plan ∧ (report f s).pacer = s.pacer ∧ (report f s).store = s.store
      ∧ (report f s).panel = s.panel ∧ (report f s).overlay = s.overlay ∧ (report f s).stage = s.stage
      ∧ (report f s).ctl = s.ctl ∧ (report f s).ev = s.ev ∧ (report f s).cat.length = s.cat.length := by
  simp [report]

/-! ### The Event Unit -/

@[simp] theorem deliver_frame (f : Flag) (s : State) :
    (deliver f s).now = s.now ∧ (deliver f s).pending = s.pending ∧ (deliver f s).mon = s.mon
      ∧ (deliver f s).cat = s.cat ∧ (deliver f s).plan = s.plan ∧ (deliver f s).pacer = s.pacer
      ∧ (deliver f s).store = s.store ∧ (deliver f s).panel = s.panel ∧ (deliver f s).overlay = s.overlay
      ∧ (deliver f s).stage = s.stage ∧ (deliver f s).ctl = s.ctl ∧ (deliver f s).ev.mask = s.ev.mask := by
  simp [deliver]

@[simp] theorem clearFlags_frame (s : State) :
    (clearFlags s).now = s.now ∧ (clearFlags s).pending = s.pending ∧ (clearFlags s).mon = s.mon
      ∧ (clearFlags s).cat = s.cat ∧ (clearFlags s).plan = s.plan ∧ (clearFlags s).pacer = s.pacer
      ∧ (clearFlags s).store = s.store ∧ (clearFlags s).panel = s.panel ∧ (clearFlags s).overlay = s.overlay
      ∧ (clearFlags s).stage = s.stage ∧ (clearFlags s).ctl = s.ctl ∧ (clearFlags s).ev.mask = s.ev.mask := by
  simp [clearFlags]

/-! ### The line store -/

@[simp] theorem storeLineStart_frame (start i : Nat) (s : State) :
    (storeLineStart start i s).now = s.now ∧ (storeLineStart start i s).pending = s.pending
      ∧ (storeLineStart start i s).mon = s.mon ∧ (storeLineStart start i s).plan = s.plan
      ∧ (storeLineStart start i s).pacer = s.pacer ∧ (storeLineStart start i s).panel = s.panel
      ∧ (storeLineStart start i s).overlay = s.overlay ∧ (storeLineStart start i s).stage = s.stage
      ∧ (storeLineStart start i s).ctl = s.ctl ∧ (storeLineStart start i s).cat.length = s.cat.length
      ∧ (storeLineStart start i s).ev.mask = s.ev.mask := by
  simp only [storeLineStart]
  (repeat' split) <;> simp

/-! ### The panel port -/

@[simp] theorem beginSwitch_frame (b : Nat) (s : State) :
    (beginSwitch b s).now = s.now ∧ (beginSwitch b s).pending = s.pending ∧ (beginSwitch b s).mon = s.mon
      ∧ (beginSwitch b s).cat = s.cat ∧ (beginSwitch b s).plan = s.plan ∧ (beginSwitch b s).store = s.store
      ∧ (beginSwitch b s).overlay = s.overlay ∧ (beginSwitch b s).stage = s.stage ∧ (beginSwitch b s).ctl = s.ctl
      ∧ (beginSwitch b s).ev = s.ev ∧ (beginSwitch b s).pacer.state = s.pacer.state
      ∧ (beginSwitch b s).pacer.last = s.pacer.last ∧ (beginSwitch b s).pacer.pending = s.pacer.pending
      ∧ (beginSwitch b s).panel.profiles = s.panel.profiles ∧ (beginSwitch b s).panel.current = s.panel.current
      ∧ (beginSwitch b s).panel.fill = s.panel.fill := by
  simp [beginSwitch]

@[simp] theorem panelSwitch_frame (p : Nat) (toCome : Bool) (s : State) :
    (panelSwitch p toCome s).now = s.now ∧ (panelSwitch p toCome s).pending = s.pending
      ∧ (panelSwitch p toCome s).mon = s.mon ∧ (panelSwitch p toCome s).cat = s.cat
      ∧ (panelSwitch p toCome s).plan = s.plan ∧ (panelSwitch p toCome s).store = s.store
      ∧ (panelSwitch p toCome s).overlay = s.overlay ∧ (panelSwitch p toCome s).stage = s.stage
      ∧ (panelSwitch p toCome s).ctl = s.ctl ∧ (panelSwitch p toCome s).ev = s.ev
      ∧ (panelSwitch p toCome s).pacer.state = s.pacer.state ∧ (panelSwitch p toCome s).pacer.last = s.pacer.last
      ∧ (panelSwitch p toCome s).pacer.pending = s.pacer.pending
      ∧ (panelSwitch p toCome s).panel.profiles = s.panel.profiles
      ∧ (panelSwitch p toCome s).panel.fill = s.panel.fill := by
  simp only [panelSwitch]
  (repeat' split) <;> simp

@[simp] theorem requestSwitch_frame (p : Nat) (s : State) :
    (requestSwitch p s).now = s.now ∧ (requestSwitch p s).pending = s.pending ∧ (requestSwitch p s).mon = s.mon
      ∧ (requestSwitch p s).cat = s.cat ∧ (requestSwitch p s).plan = s.plan ∧ (requestSwitch p s).store = s.store
      ∧ (requestSwitch p s).overlay = s.overlay ∧ (requestSwitch p s).stage = s.stage
      ∧ (requestSwitch p s).ctl = s.ctl ∧ (requestSwitch p s).ev = s.ev
      ∧ (requestSwitch p s).pacer.state = s.pacer.state ∧ (requestSwitch p s).pacer.last = s.pacer.last
      ∧ (requestSwitch p s).pacer.pending = s.pacer.pending ∧ (requestSwitch p s).panel.profiles = s.panel.profiles
      ∧ (requestSwitch p s).panel.fill = s.panel.fill := by
  simp [requestSwitch]

@[simp] theorem withdrawToCome_frame (s : State) :
    (withdrawToCome s).now = s.now ∧ (withdrawToCome s).pending = s.pending ∧ (withdrawToCome s).mon = s.mon
      ∧ (withdrawToCome s).cat = s.cat ∧ (withdrawToCome s).plan = s.plan ∧ (withdrawToCome s).store = s.store
      ∧ (withdrawToCome s).overlay = s.overlay ∧ (withdrawToCome s).stage = s.stage ∧ (withdrawToCome s).ctl = s.ctl
      ∧ (withdrawToCome s).ev = s.ev ∧ (withdrawToCome s).pacer.state = s.pacer.state
      ∧ (withdrawToCome s).pacer.last = s.pacer.last ∧ (withdrawToCome s).pacer.pending = s.pacer.pending
      ∧ (withdrawToCome s).panel.profiles = s.panel.profiles ∧ (withdrawToCome s).panel.current = s.panel.current
      ∧ (withdrawToCome s).panel.fill = s.panel.fill := by
  simp only [withdrawToCome]
  (repeat' split) <;> simp

@[simp] theorem endSwitch_frame (at_ : Nat) (s : State) :
    (endSwitch at_ s).now = s.now ∧ (endSwitch at_ s).pending = s.pending ∧ (endSwitch at_ s).mon = s.mon
      ∧ (endSwitch at_ s).cat = s.cat ∧ (endSwitch at_ s).plan = s.plan ∧ (endSwitch at_ s).pacer = s.pacer
      ∧ (endSwitch at_ s).store = s.store ∧ (endSwitch at_ s).overlay = s.overlay ∧ (endSwitch at_ s).stage = s.stage
      ∧ (endSwitch at_ s).ctl = s.ctl ∧ (endSwitch at_ s).ev = s.ev
      ∧ (endSwitch at_ s).panel.profiles = s.panel.profiles ∧ (endSwitch at_ s).panel.current = s.panel.current
      ∧ (endSwitch at_ s).panel.fill = s.panel.fill := by
  simp only [endSwitch]
  (repeat' split) <;> simp

@[simp] theorem portStop_frame (s : State) :
    (portStop s).now = s.now ∧ (portStop s).pending = s.pending ∧ (portStop s).mon = s.mon ∧ (portStop s).cat = s.cat
      ∧ (portStop s).plan = s.plan ∧ (portStop s).store = s.store ∧ (portStop s).overlay = s.overlay
      ∧ (portStop s).stage = s.stage ∧ (portStop s).ctl = s.ctl ∧ (portStop s).ev = s.ev
      ∧ (portStop s).pacer.state = s.pacer.state ∧ (portStop s).pacer.last = s.pacer.last
      ∧ (portStop s).pacer.pending = s.pacer.pending ∧ (portStop s).panel.profiles = s.panel.profiles
      ∧ (portStop s).panel.current = s.panel.current ∧ (portStop s).panel.fill = s.panel.fill := by
  simp only [portStop]
  (repeat' split) <;> simp

@[simp] theorem beginFrame_frame (kind : LaunchKind) (lf at_ : Nat) (s : State) :
    (beginFrame kind lf at_ s).now = s.now ∧ (beginFrame kind lf at_ s).pending = s.pending
      ∧ (beginFrame kind lf at_ s).mon = s.mon ∧ (beginFrame kind lf at_ s).cat = s.cat
      ∧ (beginFrame kind lf at_ s).plan = s.plan ∧ (beginFrame kind lf at_ s).pacer = s.pacer
      ∧ (beginFrame kind lf at_ s).overlay = s.overlay ∧ (beginFrame kind lf at_ s).stage = s.stage
      ∧ (beginFrame kind lf at_ s).ctl = s.ctl ∧ (beginFrame kind lf at_ s).ev = s.ev
      ∧ (beginFrame kind lf at_ s).store.slots.length = s.store.slots.length
      ∧ (beginFrame kind lf at_ s).panel.profiles = s.panel.profiles
      ∧ (beginFrame kind lf at_ s).panel.current = s.panel.current
      ∧ (beginFrame kind lf at_ s).panel.fill = s.panel.fill := by
  simp only [beginFrame]
  (repeat' split) <;> simp

@[simp] theorem endTrail_frame (at_ : Nat) (s : State) :
    (endTrail at_ s).now = s.now ∧ (endTrail at_ s).pending = s.pending ∧ (endTrail at_ s).mon = s.mon
      ∧ (endTrail at_ s).cat = s.cat ∧ (endTrail at_ s).plan = s.plan ∧ (endTrail at_ s).store = s.store
      ∧ (endTrail at_ s).overlay = s.overlay ∧ (endTrail at_ s).stage = s.stage ∧ (endTrail at_ s).ctl = s.ctl
      ∧ (endTrail at_ s).ev = s.ev ∧ (endTrail at_ s).pacer.state = s.pacer.state
      ∧ (endTrail at_ s).pacer.last = s.pacer.last ∧ (endTrail at_ s).pacer.pending = s.pacer.pending
      ∧ (endTrail at_ s).panel.profiles = s.panel.profiles ∧ (endTrail at_ s).panel.current = s.panel.current
      ∧ (endTrail at_ s).panel.fill = s.panel.fill := by
  simp only [endTrail]
  (repeat' split) <;> simp

/-! ### The Overlay Merge Unit -/

@[simp] theorem figuresOnLaunch_frame (kind : LaunchKind) (s : State) :
    (figuresOnLaunch kind s).now = s.now ∧ (figuresOnLaunch kind s).pending = s.pending
      ∧ (figuresOnLaunch kind s).mon = s.mon ∧ (figuresOnLaunch kind s).cat = s.cat
      ∧ (figuresOnLaunch kind s).plan = s.plan ∧ (figuresOnLaunch kind s).pacer = s.pacer
      ∧ (figuresOnLaunch kind s).store = s.store ∧ (figuresOnLaunch kind s).panel = s.panel
      ∧ (figuresOnLaunch kind s).stage = s.stage ∧ (figuresOnLaunch kind s).ctl = s.ctl
      ∧ (figuresOnLaunch kind s).ev = s.ev ∧ (figuresOnLaunch kind s).overlay.image = s.overlay.image
      ∧ (figuresOnLaunch kind s).overlay.writePtr = s.overlay.writePtr
      ∧ (figuresOnLaunch kind s).overlay.windows.length = s.overlay.windows.length := by
  simp only [figuresOnLaunch]
  (repeat' split) <;> simp

@[simp] theorem dropLine_frame (win : Nat) (s : State) :
    (dropLine win s).now = s.now ∧ (dropLine win s).pending = s.pending ∧ (dropLine win s).mon = s.mon
      ∧ (dropLine win s).cat = s.cat ∧ (dropLine win s).plan = s.plan ∧ (dropLine win s).pacer = s.pacer
      ∧ (dropLine win s).store = s.store ∧ (dropLine win s).panel = s.panel ∧ (dropLine win s).stage = s.stage
      ∧ (dropLine win s).ctl = s.ctl ∧ (dropLine win s).overlay.image = s.overlay.image
      ∧ (dropLine win s).overlay.writePtr = s.overlay.writePtr
      ∧ (dropLine win s).overlay.windows.length = s.overlay.windows.length ∧ (dropLine win s).ev.mask = s.ev.mask := by
  simp [dropLine]

@[simp] theorem dropLines_frame (wins : List Nat) (s : State) :
    (dropLines wins s).now = s.now ∧ (dropLines wins s).pending = s.pending ∧ (dropLines wins s).mon = s.mon
      ∧ (dropLines wins s).cat = s.cat ∧ (dropLines wins s).plan = s.plan ∧ (dropLines wins s).pacer = s.pacer
      ∧ (dropLines wins s).store = s.store ∧ (dropLines wins s).panel = s.panel ∧ (dropLines wins s).stage = s.stage
      ∧ (dropLines wins s).ctl = s.ctl ∧ (dropLines wins s).overlay.image = s.overlay.image
      ∧ (dropLines wins s).overlay.writePtr = s.overlay.writePtr
      ∧ (dropLines wins s).overlay.windows.length = s.overlay.windows.length ∧ (dropLines wins s).ev.mask = s.ev.mask := by
  induction wins generalizing s with
  | nil => simp [dropLines]
  | cons a l ih => simp only [dropLines, List.foldl_cons] at *; simp [ih]

/-! ### The pacer -/

@[simp] theorem rearm_frame (s : State) :
    (rearm s).now = s.now ∧ (rearm s).pending = s.pending ∧ (rearm s).mon = s.mon ∧ (rearm s).cat = s.cat
      ∧ (rearm s).plan = s.plan ∧ (rearm s).store = s.store ∧ (rearm s).panel = s.panel
      ∧ (rearm s).overlay = s.overlay ∧ (rearm s).stage = s.stage ∧ (rearm s).ctl = s.ctl ∧ (rearm s).ev = s.ev
      ∧ (rearm s).pacer.state = s.pacer.state ∧ (rearm s).pacer.last = s.pacer.last
      ∧ (rearm s).pacer.tracking = s.pacer.tracking ∧ (rearm s).pacer.pending = s.pacer.pending := by
  simp [rearm]

@[simp] theorem syncRest_frame (s : State) :
    (syncRest s).now = s.now ∧ (syncRest s).pending = s.pending ∧ (syncRest s).mon = s.mon ∧ (syncRest s).cat = s.cat
      ∧ (syncRest s).plan = s.plan ∧ (syncRest s).store = s.store ∧ (syncRest s).panel = s.panel
      ∧ (syncRest s).overlay = s.overlay ∧ (syncRest s).stage = s.stage ∧ (syncRest s).ctl = s.ctl
      ∧ (syncRest s).ev = s.ev ∧ (syncRest s).pacer.state = s.pacer.state ∧ (syncRest s).pacer.last = s.pacer.last
      ∧ (syncRest s).pacer.tracking = s.pacer.tracking ∧ (syncRest s).pacer.pending = s.pacer.pending := by
  simp [syncRest]

@[simp] theorem loadRest_frame (s : State) :
    (loadRest s).now = s.now ∧ (loadRest s).pending = s.pending ∧ (loadRest s).mon = s.mon ∧ (loadRest s).cat = s.cat
      ∧ (loadRest s).plan = s.plan ∧ (loadRest s).store = s.store ∧ (loadRest s).panel = s.panel
      ∧ (loadRest s).overlay = s.overlay ∧ (loadRest s).stage = s.stage ∧ (loadRest s).ctl = s.ctl
      ∧ (loadRest s).ev = s.ev ∧ (loadRest s).pacer.state = s.pacer.state ∧ (loadRest s).pacer.last = s.pacer.last
      ∧ (loadRest s).pacer.tracking = s.pacer.tracking ∧ (loadRest s).pacer.pending = s.pacer.pending := by
  simp [loadRest]

@[simp] theorem settlePacer_frame (s : State) :
    (settlePacer s).now = s.now ∧ (settlePacer s).pending = s.pending ∧ (settlePacer s).mon = s.mon
      ∧ (settlePacer s).cat = s.cat ∧ (settlePacer s).plan = s.plan ∧ (settlePacer s).store = s.store
      ∧ (settlePacer s).panel = s.panel ∧ (settlePacer s).overlay = s.overlay ∧ (settlePacer s).stage = s.stage
      ∧ (settlePacer s).ctl = s.ctl ∧ (settlePacer s).ev = s.ev ∧ (settlePacer s).pacer.state = s.pacer.state
      ∧ (settlePacer s).pacer.last = s.pacer.last ∧ (settlePacer s).pacer.tracking = s.pacer.tracking
      ∧ (settlePacer s).pacer.pending = s.pacer.pending := by
  simp [settlePacer]

@[simp] theorem periodicAt_frame (t : Nat) (s : State) :
    (periodicAt t s).now = s.now ∧ (periodicAt t s).pending = s.pending ∧ (periodicAt t s).mon = s.mon
      ∧ (periodicAt t s).cat = s.cat ∧ (periodicAt t s).plan = s.plan ∧ (periodicAt t s).store = s.store
      ∧ (periodicAt t s).panel = s.panel ∧ (periodicAt t s).overlay = s.overlay ∧ (periodicAt t s).stage = s.stage
      ∧ (periodicAt t s).ctl = s.ctl ∧ (periodicAt t s).ev = s.ev ∧ (periodicAt t s).pacer.state = s.pacer.state
      ∧ (periodicAt t s).pacer.last = s.pacer.last ∧ (periodicAt t s).pacer.tracking = s.pacer.tracking
      ∧ (periodicAt t s).pacer.pending = s.pacer.pending := by
  simp [periodicAt]

@[simp] theorem periodicOnEntry_frame (s : State) :
    (periodicOnEntry s).now = s.now ∧ (periodicOnEntry s).pending = s.pending ∧ (periodicOnEntry s).mon = s.mon
      ∧ (periodicOnEntry s).cat = s.cat ∧ (periodicOnEntry s).plan = s.plan ∧ (periodicOnEntry s).store = s.store
      ∧ (periodicOnEntry s).panel = s.panel ∧ (periodicOnEntry s).overlay = s.overlay
      ∧ (periodicOnEntry s).stage = s.stage ∧ (periodicOnEntry s).ctl = s.ctl ∧ (periodicOnEntry s).ev = s.ev
      ∧ (periodicOnEntry s).pacer.state = s.pacer.state ∧ (periodicOnEntry s).pacer.last = s.pacer.last
      ∧ (periodicOnEntry s).pacer.tracking = s.pacer.tracking ∧ (periodicOnEntry s).pacer.pending = s.pacer.pending := by
  simp [periodicOnEntry]

@[simp] theorem periodicAfterLaunch_frame (s : State) :
    (periodicAfterLaunch s).now = s.now ∧ (periodicAfterLaunch s).pending = s.pending
      ∧ (periodicAfterLaunch s).mon = s.mon ∧ (periodicAfterLaunch s).cat = s.cat
      ∧ (periodicAfterLaunch s).plan = s.plan ∧ (periodicAfterLaunch s).store = s.store
      ∧ (periodicAfterLaunch s).panel = s.panel ∧ (periodicAfterLaunch s).overlay = s.overlay
      ∧ (periodicAfterLaunch s).stage = s.stage ∧ (periodicAfterLaunch s).ctl = s.ctl
      ∧ (periodicAfterLaunch s).ev = s.ev ∧ (periodicAfterLaunch s).pacer.state = s.pacer.state
      ∧ (periodicAfterLaunch s).pacer.last = s.pacer.last ∧ (periodicAfterLaunch s).pacer.tracking = s.pacer.tracking
      ∧ (periodicAfterLaunch s).pacer.pending = s.pacer.pending := by
  simp only [periodicAfterLaunch]
  (repeat' split) <;> simp

@[simp] theorem schedulePredictions_frame (anchor : Nat) (s : State) :
    (schedulePredictions anchor s).now = s.now ∧ (schedulePredictions anchor s).pending = s.pending
      ∧ (schedulePredictions anchor s).mon = s.mon ∧ (schedulePredictions anchor s).cat = s.cat
      ∧ (schedulePredictions anchor s).plan = s.plan ∧ (schedulePredictions anchor s).store = s.store
      ∧ (schedulePredictions anchor s).panel = s.panel ∧ (schedulePredictions anchor s).overlay = s.overlay
      ∧ (schedulePredictions anchor s).stage = s.stage ∧ (schedulePredictions anchor s).ctl = s.ctl
      ∧ (schedulePredictions anchor s).ev = s.ev ∧ (schedulePredictions anchor s).pacer.state = s.pacer.state
      ∧ (schedulePredictions anchor s).pacer.last = s.pacer.last
      ∧ (schedulePredictions anchor s).pacer.tracking = s.pacer.tracking
      ∧ (schedulePredictions anchor s).pacer.pending = s.pacer.pending := by
  simp [schedulePredictions]

@[simp] theorem makeLaunch_frame (kind : LaunchKind) (reason : LaunchReason) (lf at_ : Nat) (s : State) :
    (makeLaunch kind reason lf at_ s).now = s.now ∧ (makeLaunch kind reason lf at_ s).pending = s.pending
      ∧ (makeLaunch kind reason lf at_ s).mon = s.mon ∧ (makeLaunch kind reason lf at_ s).cat = s.cat
      ∧ (makeLaunch kind reason lf at_ s).plan = s.plan ∧ (makeLaunch kind reason lf at_ s).overlay = s.overlay
      ∧ (makeLaunch kind reason lf at_ s).stage = s.stage ∧ (makeLaunch kind reason lf at_ s).ctl = s.ctl
      ∧ (makeLaunch kind reason lf at_ s).ev = s.ev ∧ (makeLaunch kind reason lf at_ s).pacer.state = s.pacer.state
      ∧ (makeLaunch kind reason lf at_ s).pacer.tracking = s.pacer.tracking
      ∧ (makeLaunch kind reason lf at_ s).pacer.pending = s.pacer.pending
      ∧ (makeLaunch kind reason lf at_ s).store.slots.length = s.store.slots.length
      ∧ (makeLaunch kind reason lf at_ s).panel.profiles = s.panel.profiles
      ∧ (makeLaunch kind reason lf at_ s).panel.current = s.panel.current
      ∧ (makeLaunch kind reason lf at_ s).panel.fill = s.panel.fill := by
  simp [makeLaunch]

@[simp] theorem popSchedule_frame (s : State) :
    (popSchedule s).now = s.now ∧ (popSchedule s).pending = s.pending ∧ (popSchedule s).mon = s.mon
      ∧ (popSchedule s).cat = s.cat ∧ (popSchedule s).plan = s.plan ∧ (popSchedule s).store = s.store
      ∧ (popSchedule s).panel = s.panel ∧ (popSchedule s).overlay = s.overlay ∧ (popSchedule s).stage = s.stage
      ∧ (popSchedule s).ctl = s.ctl ∧ (popSchedule s).ev = s.ev ∧ (popSchedule s).pacer.state = s.pacer.state
      ∧ (popSchedule s).pacer.last = s.pacer.last ∧ (popSchedule s).pacer.tracking = s.pacer.tracking
      ∧ (popSchedule s).pacer.pending = s.pacer.pending := by
  simp [popSchedule]

@[simp] theorem takeEntry_frame (x : SchedEntry) (s : State) :
    (takeEntry x s).now = s.now ∧ (takeEntry x s).pending = s.pending ∧ (takeEntry x s).mon = s.mon
      ∧ (takeEntry x s).plan = s.plan ∧ (takeEntry x s).stage = s.stage ∧ (takeEntry x s).ctl = s.ctl
      ∧ (takeEntry x s).ev = s.ev ∧ (takeEntry x s).cat.length = s.cat.length
      ∧ (takeEntry x s).pacer.state = s.pacer.state ∧ (takeEntry x s).pacer.tracking = s.pacer.tracking
      ∧ (takeEntry x s).pacer.pending = s.pacer.pending ∧ (takeEntry x s).store.slots.length = s.store.slots.length
      ∧ (takeEntry x s).panel.profiles = s.panel.profiles ∧ (takeEntry x s).panel.current = s.panel.current
      ∧ (takeEntry x s).panel.fill = s.panel.fill ∧ (takeEntry x s).overlay.image = s.overlay.image
      ∧ (takeEntry x s).overlay.writePtr = s.overlay.writePtr
      ∧ (takeEntry x s).overlay.windows.length = s.overlay.windows.length := by
  simp only [takeEntry]
  (repeat' split) <;> simp

@[simp] theorem takeForced_frame (d : Nat) (s : State) :
    (takeForced d s).now = s.now ∧ (takeForced d s).pending = s.pending ∧ (takeForced d s).mon = s.mon
      ∧ (takeForced d s).plan = s.plan ∧ (takeForced d s).stage = s.stage ∧ (takeForced d s).ctl = s.ctl
      ∧ (takeForced d s).ev = s.ev ∧ (takeForced d s).cat.length = s.cat.length
      ∧ (takeForced d s).pacer.state = s.pacer.state ∧ (takeForced d s).pacer.tracking = s.pacer.tracking
      ∧ (takeForced d s).pacer.pending = s.pacer.pending ∧ (takeForced d s).store.slots.length = s.store.slots.length
      ∧ (takeForced d s).panel.profiles = s.panel.profiles ∧ (takeForced d s).panel.current = s.panel.current
      ∧ (takeForced d s).panel.fill = s.panel.fill ∧ (takeForced d s).overlay.image = s.overlay.image
      ∧ (takeForced d s).overlay.writePtr = s.overlay.writePtr
      ∧ (takeForced d s).overlay.windows.length = s.overlay.windows.length := by
  simp [takeForced]

@[simp] theorem takeLive_frame (x : PendingLaunch) (s : State) :
    (takeLive x s).now = s.now ∧ (takeLive x s).pending = s.pending ∧ (takeLive x s).mon = s.mon
      ∧ (takeLive x s).plan = s.plan ∧ (takeLive x s).stage = s.stage ∧ (takeLive x s).ctl = s.ctl
      ∧ (takeLive x s).ev = s.ev ∧ (takeLive x s).cat.length = s.cat.length
      ∧ (takeLive x s).pacer.state = s.pacer.state ∧ (takeLive x s).pacer.tracking = s.pacer.tracking
      ∧ (takeLive x s).store.slots.length = s.store.slots.length ∧ (takeLive x s).panel.profiles = s.panel.profiles
      ∧ (takeLive x s).panel.current = s.panel.current ∧ (takeLive x s).panel.fill = s.panel.fill
      ∧ (takeLive x s).overlay.image = s.overlay.image ∧ (takeLive x s).overlay.writePtr = s.overlay.writePtr
      ∧ (takeLive x s).overlay.windows.length = s.overlay.windows.length := by
  simp only [takeLive]
  (repeat' split) <;> simp

@[simp] theorem skipFrame_frame (s : State) :
    (skipFrame s).now = s.now ∧ (skipFrame s).pending = s.pending ∧ (skipFrame s).mon = s.mon
      ∧ (skipFrame s).plan = s.plan ∧ (skipFrame s).pacer = s.pacer ∧ (skipFrame s).store = s.store
      ∧ (skipFrame s).panel = s.panel ∧ (skipFrame s).overlay = s.overlay ∧ (skipFrame s).stage = s.stage
      ∧ (skipFrame s).ctl = s.ctl ∧ (skipFrame s).cat.length = s.cat.length ∧ (skipFrame s).ev.mask = s.ev.mask := by
  simp [skipFrame]

@[simp] theorem storeFrame_frame (plan : Plan) (s : State) :
    (storeFrame plan s).now = s.now ∧ (storeFrame plan s).pending = s.pending ∧ (storeFrame plan s).mon = s.mon
      ∧ (storeFrame plan s).cat = s.cat ∧ (storeFrame plan s).plan = s.plan ∧ (storeFrame plan s).pacer = s.pacer
      ∧ (storeFrame plan s).panel = s.panel ∧ (storeFrame plan s).overlay = s.overlay
      ∧ (storeFrame plan s).stage = s.stage ∧ (storeFrame plan s).ctl = s.ctl ∧ (storeFrame plan s).ev = s.ev
      ∧ (storeFrame plan s).store.slots.length = s.store.slots.length := by
  simp [storeFrame]

@[simp] theorem presentFrame_frame (plan : Plan) (d lag : Nat) (cls : Option DeferClass) (s : State) :
    (presentFrame plan d lag cls s).now = s.now ∧ (presentFrame plan d lag cls s).pending = s.pending
      ∧ (presentFrame plan d lag cls s).mon = s.mon ∧ (presentFrame plan d lag cls s).cat = s.cat
      ∧ (presentFrame plan d lag cls s).plan = s.plan ∧ (presentFrame plan d lag cls s).panel = s.panel
      ∧ (presentFrame plan d lag cls s).overlay = s.overlay ∧ (presentFrame plan d lag cls s).stage = s.stage
      ∧ (presentFrame plan d lag cls s).ctl = s.ctl ∧ (presentFrame plan d lag cls s).ev = s.ev
      ∧ (presentFrame plan d lag cls s).pacer.state = s.pacer.state
      ∧ (presentFrame plan d lag cls s).pacer.last = s.pacer.last
      ∧ (presentFrame plan d lag cls s).pacer.tracking = s.pacer.tracking
      ∧ (presentFrame plan d lag cls s).store.slots.length = s.store.slots.length := by
  simp [presentFrame]

@[simp] theorem decideFrame_frame (plan : Plan) (s : State) :
    (decideFrame plan s).now = s.now ∧ (decideFrame plan s).pending = s.pending ∧ (decideFrame plan s).mon = s.mon
      ∧ (decideFrame plan s).plan = s.plan ∧ (decideFrame plan s).panel = s.panel
      ∧ (decideFrame plan s).overlay = s.overlay ∧ (decideFrame plan s).stage = s.stage
      ∧ (decideFrame plan s).ctl = s.ctl ∧ (decideFrame plan s).cat.length = s.cat.length
      ∧ (decideFrame plan s).pacer.state = s.pacer.state ∧ (decideFrame plan s).pacer.last = s.pacer.last
      ∧ (decideFrame plan s).pacer.tracking = s.pacer.tracking
      ∧ (decideFrame plan s).store.slots.length = s.store.slots.length ∧ (decideFrame plan s).ev.mask = s.ev.mask := by
  simp only [decideFrame]
  (repeat' split) <;> simp

@[simp] theorem pacerFrameStart_frame (s : State) :
    (pacerFrameStart s).now = s.now ∧ (pacerFrameStart s).pending = s.pending ∧ (pacerFrameStart s).mon = s.mon
      ∧ (pacerFrameStart s).plan = s.plan ∧ (pacerFrameStart s).panel = s.panel
      ∧ (pacerFrameStart s).overlay = s.overlay ∧ (pacerFrameStart s).stage = s.stage
      ∧ (pacerFrameStart s).ctl = s.ctl ∧ (pacerFrameStart s).cat.length = s.cat.length
      ∧ (pacerFrameStart s).pacer.state = s.pacer.state ∧ (pacerFrameStart s).pacer.last = s.pacer.last
      ∧ (pacerFrameStart s).pacer.tracking = s.pacer.tracking
      ∧ (pacerFrameStart s).store.slots.length = s.store.slots.length ∧ (pacerFrameStart s).ev.mask = s.ev.mask := by
  simp only [pacerFrameStart]
  (repeat' split) <;> simp

@[simp] theorem setPacerState_frame (p : PacerState) (s : State) :
    (setPacerState p s).now = s.now ∧ (setPacerState p s).pending = s.pending ∧ (setPacerState p s).mon = s.mon
      ∧ (setPacerState p s).cat = s.cat ∧ (setPacerState p s).plan = s.plan ∧ (setPacerState p s).store = s.store
      ∧ (setPacerState p s).panel = s.panel ∧ (setPacerState p s).overlay = s.overlay
      ∧ (setPacerState p s).stage = s.stage ∧ (setPacerState p s).ctl = s.ctl ∧ (setPacerState p s).ev = s.ev
      ∧ (setPacerState p s).pacer.last = s.pacer.last ∧ (setPacerState p s).pacer.tracking = s.pacer.tracking
      ∧ (setPacerState p s).pacer.pending = s.pacer.pending := by
  simp [setPacerState]

@[simp] theorem stopHold_frame (s : State) :
    (stopHold s).now = s.now ∧ (stopHold s).pending = s.pending ∧ (stopHold s).mon = s.mon ∧ (stopHold s).cat = s.cat
      ∧ (stopHold s).plan = s.plan ∧ (stopHold s).store = s.store ∧ (stopHold s).panel = s.panel
      ∧ (stopHold s).overlay = s.overlay ∧ (stopHold s).stage = s.stage ∧ (stopHold s).ctl = s.ctl
      ∧ (stopHold s).ev = s.ev ∧ (stopHold s).pacer.state = s.pacer.state ∧ (stopHold s).pacer.last = s.pacer.last
      ∧ (stopHold s).pacer.tracking = s.pacer.tracking ∧ (stopHold s).pacer.pending = s.pacer.pending := by
  simp [stopHold]

@[simp] theorem emptySchedule_frame (s : State) :
    (emptySchedule s).now = s.now ∧ (emptySchedule s).pending = s.pending ∧ (emptySchedule s).mon = s.mon
      ∧ (emptySchedule s).cat = s.cat ∧ (emptySchedule s).plan = s.plan ∧ (emptySchedule s).store = s.store
      ∧ (emptySchedule s).panel = s.panel ∧ (emptySchedule s).overlay = s.overlay ∧ (emptySchedule s).stage = s.stage
      ∧ (emptySchedule s).ctl = s.ctl ∧ (emptySchedule s).ev = s.ev ∧ (emptySchedule s).pacer.state = s.pacer.state
      ∧ (emptySchedule s).pacer.last = s.pacer.last ∧ (emptySchedule s).pacer.tracking = s.pacer.tracking
      ∧ (emptySchedule s).pacer.pending = s.pacer.pending := by
  simp [emptySchedule]

@[simp] theorem enterFreeRun_frame (s : State) :
    (enterFreeRun s).now = s.now ∧ (enterFreeRun s).pending = s.pending ∧ (enterFreeRun s).mon = s.mon
      ∧ (enterFreeRun s).cat = s.cat ∧ (enterFreeRun s).plan = s.plan ∧ (enterFreeRun s).store = s.store
      ∧ (enterFreeRun s).panel = s.panel ∧ (enterFreeRun s).overlay = s.overlay ∧ (enterFreeRun s).stage = s.stage
      ∧ (enterFreeRun s).ctl = s.ctl ∧ (enterFreeRun s).ev = s.ev ∧ (enterFreeRun s).pacer.last = s.pacer.last
      ∧ (enterFreeRun s).pacer.tracking = s.pacer.tracking ∧ (enterFreeRun s).pacer.pending = s.pacer.pending := by
  simp [enterFreeRun]

@[simp] theorem enterHold_frame (s : State) :
    (enterHold s).now = s.now ∧ (enterHold s).pending = s.pending ∧ (enterHold s).mon = s.mon
      ∧ (enterHold s).cat = s.cat ∧ (enterHold s).plan = s.plan ∧ (enterHold s).store = s.store
      ∧ (enterHold s).panel = s.panel ∧ (enterHold s).overlay = s.overlay ∧ (enterHold s).stage = s.stage
      ∧ (enterHold s).ctl = s.ctl ∧ (enterHold s).ev = s.ev ∧ (enterHold s).pacer.last = s.pacer.last
      ∧ (enterHold s).pacer.tracking = s.pacer.tracking ∧ (enterHold s).pacer.pending = s.pacer.pending := by
  simp [enterHold]

@[simp] theorem leaveLive_frame (s : State) :
    (leaveLive s).now = s.now ∧ (leaveLive s).pending = s.pending ∧ (leaveLive s).mon = s.mon
      ∧ (leaveLive s).cat = s.cat ∧ (leaveLive s).plan = s.plan ∧ (leaveLive s).store = s.store
      ∧ (leaveLive s).panel = s.panel ∧ (leaveLive s).overlay = s.overlay ∧ (leaveLive s).stage = s.stage
      ∧ (leaveLive s).ctl = s.ctl ∧ (leaveLive s).ev = s.ev ∧ (leaveLive s).pacer.last = s.pacer.last
      ∧ (leaveLive s).pacer.tracking = s.pacer.tracking ∧ (leaveLive s).pacer.pending = s.pacer.pending := by
  simp only [leaveLive]
  (repeat' split) <;> simp

@[simp] theorem holdToFreeRun_frame (s : State) :
    (holdToFreeRun s).now = s.now ∧ (holdToFreeRun s).pending = s.pending ∧ (holdToFreeRun s).mon = s.mon
      ∧ (holdToFreeRun s).cat = s.cat ∧ (holdToFreeRun s).plan = s.plan ∧ (holdToFreeRun s).store = s.store
      ∧ (holdToFreeRun s).panel = s.panel ∧ (holdToFreeRun s).overlay = s.overlay ∧ (holdToFreeRun s).stage = s.stage
      ∧ (holdToFreeRun s).ctl = s.ctl ∧ (holdToFreeRun s).ev = s.ev ∧ (holdToFreeRun s).pacer.last = s.pacer.last
      ∧ (holdToFreeRun s).pacer.tracking = s.pacer.tracking ∧ (holdToFreeRun s).pacer.pending = s.pacer.pending := by
  simp [holdToFreeRun]

@[simp] theorem enterStandby_frame (s : State) :
    (enterStandby s).now = s.now ∧ (enterStandby s).pending = s.pending ∧ (enterStandby s).mon = s.mon
      ∧ (enterStandby s).cat = s.cat ∧ (enterStandby s).plan = s.plan ∧ (enterStandby s).store = s.store
      ∧ (enterStandby s).overlay = s.overlay ∧ (enterStandby s).stage = s.stage ∧ (enterStandby s).ctl = s.ctl
      ∧ (enterStandby s).ev = s.ev ∧ (enterStandby s).pacer.last = s.pacer.last
      ∧ (enterStandby s).pacer.pending = s.pacer.pending ∧ (enterStandby s).panel.profiles = s.panel.profiles
      ∧ (enterStandby s).panel.current = s.panel.current ∧ (enterStandby s).panel.fill = s.panel.fill := by
  simp [enterStandby]

@[simp] theorem enterRest_frame (s : State) :
    (enterRest s).now = s.now ∧ (enterRest s).pending = s.pending ∧ (enterRest s).mon = s.mon
      ∧ (enterRest s).cat = s.cat ∧ (enterRest s).plan = s.plan ∧ (enterRest s).store = s.store
      ∧ (enterRest s).overlay = s.overlay ∧ (enterRest s).stage = s.stage ∧ (enterRest s).ctl = s.ctl
      ∧ (enterRest s).pacer.last = s.pacer.last ∧ (enterRest s).pacer.pending = s.pacer.pending
      ∧ (enterRest s).panel.profiles = s.panel.profiles ∧ (enterRest s).panel.current = s.panel.current
      ∧ (enterRest s).panel.fill = s.panel.fill ∧ (enterRest s).ev.mask = s.ev.mask := by
  simp [enterRest]

@[simp] theorem pacerActivate_frame (plan : Plan) (s : State) :
    (pacerActivate plan s).now = s.now ∧ (pacerActivate plan s).pending = s.pending
      ∧ (pacerActivate plan s).mon = s.mon ∧ (pacerActivate plan s).cat = s.cat
      ∧ (pacerActivate plan s).plan = s.plan ∧ (pacerActivate plan s).store = s.store
      ∧ (pacerActivate plan s).overlay = s.overlay ∧ (pacerActivate plan s).stage = s.stage
      ∧ (pacerActivate plan s).ctl = s.ctl ∧ (pacerActivate plan s).ev = s.ev
      ∧ (pacerActivate plan s).pacer.last = s.pacer.last ∧ (pacerActivate plan s).pacer.pending = s.pacer.pending
      ∧ (pacerActivate plan s).panel.profiles = s.panel.profiles ∧ (pacerActivate plan s).panel.fill = s.panel.fill := by
  simp only [pacerActivate]
  (repeat' split) <;> simp

@[simp] theorem cancelPending_frame (s : State) :
    (cancelPending s).now = s.now ∧ (cancelPending s).pending = s.pending ∧ (cancelPending s).mon = s.mon
      ∧ (cancelPending s).plan = s.plan ∧ (cancelPending s).overlay = s.overlay ∧ (cancelPending s).stage = s.stage
      ∧ (cancelPending s).ctl = s.ctl ∧ (cancelPending s).cat.length = s.cat.length
      ∧ (cancelPending s).pacer.state = s.pacer.state ∧ (cancelPending s).pacer.last = s.pacer.last
      ∧ (cancelPending s).store.slots.length = s.store.slots.length
      ∧ (cancelPending s).panel.profiles = s.panel.profiles ∧ (cancelPending s).panel.current = s.panel.current
      ∧ (cancelPending s).panel.fill = s.panel.fill ∧ (cancelPending s).ev.mask = s.ev.mask := by
  simp only [cancelPending]
  (repeat' split) <;> simp

@[simp] theorem pacerSwitchEnd_frame (at_ : Nat) (s : State) :
    (pacerSwitchEnd at_ s).now = s.now ∧ (pacerSwitchEnd at_ s).pending = s.pending
      ∧ (pacerSwitchEnd at_ s).mon = s.mon ∧ (pacerSwitchEnd at_ s).cat = s.cat
      ∧ (pacerSwitchEnd at_ s).plan = s.plan ∧ (pacerSwitchEnd at_ s).store = s.store
      ∧ (pacerSwitchEnd at_ s).panel = s.panel ∧ (pacerSwitchEnd at_ s).overlay = s.overlay
      ∧ (pacerSwitchEnd at_ s).stage = s.stage ∧ (pacerSwitchEnd at_ s).ctl = s.ctl
      ∧ (pacerSwitchEnd at_ s).ev = s.ev ∧ (pacerSwitchEnd at_ s).pacer.state = s.pacer.state
      ∧ (pacerSwitchEnd at_ s).pacer.pending = s.pacer.pending := by
  simp only [pacerSwitchEnd]
  (repeat' split) <;> simp

/-! ### The catalogue -/

@[simp] theorem activate_frame (slot : Nat) (plan : Plan) (s : State) :
    (activate slot plan s).now = s.now ∧ (activate slot plan s).pending = s.pending
      ∧ (activate slot plan s).mon = s.mon ∧ (activate slot plan s).store = s.store
      ∧ (activate slot plan s).overlay = s.overlay ∧ (activate slot plan s).stage = s.stage
      ∧ (activate slot plan s).ctl = s.ctl ∧ (activate slot plan s).cat.length = s.cat.length
      ∧ (activate slot plan s).pacer.last = s.pacer.last ∧ (activate slot plan s).pacer.pending = s.pacer.pending
      ∧ (activate slot plan s).panel.profiles = s.panel.profiles ∧ (activate slot plan s).panel.fill = s.panel.fill
      ∧ (activate slot plan s).ev.mask = s.ev.mask := by
  simp [activate]

@[simp] theorem markUnfit_frame (slot : Nat) (reason : UnfitReason) (s : State) :
    (markUnfit slot reason s).now = s.now ∧ (markUnfit slot reason s).pending = s.pending
      ∧ (markUnfit slot reason s).mon = s.mon ∧ (markUnfit slot reason s).plan = s.plan
      ∧ (markUnfit slot reason s).pacer = s.pacer ∧ (markUnfit slot reason s).store = s.store
      ∧ (markUnfit slot reason s).panel = s.panel ∧ (markUnfit slot reason s).overlay = s.overlay
      ∧ (markUnfit slot reason s).stage = s.stage ∧ (markUnfit slot reason s).ctl = s.ctl
      ∧ (markUnfit slot reason s).ev = s.ev ∧ (markUnfit slot reason s).cat.length = s.cat.length := by
  simp [markUnfit]

@[simp] theorem lookupOver_frame (o : Observation) (l : List Nat) (s : State) :
    (lookupOver o l s).now = s.now ∧ (lookupOver o l s).pending = s.pending ∧ (lookupOver o l s).mon = s.mon
      ∧ (lookupOver o l s).store = s.store ∧ (lookupOver o l s).overlay = s.overlay
      ∧ (lookupOver o l s).stage = s.stage ∧ (lookupOver o l s).ctl = s.ctl
      ∧ (lookupOver o l s).cat.length = s.cat.length ∧ (lookupOver o l s).pacer.last = s.pacer.last
      ∧ (lookupOver o l s).pacer.pending = s.pacer.pending ∧ (lookupOver o l s).panel.profiles = s.panel.profiles
      ∧ (lookupOver o l s).panel.fill = s.panel.fill ∧ (lookupOver o l s).ev.mask = s.ev.mask := by
  induction l generalizing s with
  | nil => simp [lookupOver]
  | cons a l ih => simp only [lookupOver]; split <;> simp [ih]

@[simp] theorem runLookup_frame (s : State) :
    (runLookup s).now = s.now ∧ (runLookup s).pending = s.pending ∧ (runLookup s).mon = s.mon
      ∧ (runLookup s).store = s.store ∧ (runLookup s).overlay = s.overlay ∧ (runLookup s).stage = s.stage
      ∧ (runLookup s).ctl = s.ctl ∧ (runLookup s).cat.length = s.cat.length ∧ (runLookup s).pacer.last = s.pacer.last
      ∧ (runLookup s).pacer.pending = s.pacer.pending ∧ (runLookup s).panel.profiles = s.panel.profiles
      ∧ (runLookup s).panel.fill = s.panel.fill ∧ (runLookup s).ev.mask = s.ev.mask := by
  simp only [runLookup]
  (repeat' split) <;> simp

@[simp] theorem requestLookup_frame (s : State) :
    (requestLookup s).now = s.now ∧ (requestLookup s).pending = s.pending ∧ (requestLookup s).mon = s.mon
      ∧ (requestLookup s).store = s.store ∧ (requestLookup s).overlay = s.overlay ∧ (requestLookup s).stage = s.stage
      ∧ (requestLookup s).ctl = s.ctl ∧ (requestLookup s).cat.length = s.cat.length
      ∧ (requestLookup s).pacer.last = s.pacer.last ∧ (requestLookup s).pacer.pending = s.pacer.pending
      ∧ (requestLookup s).panel.profiles = s.panel.profiles ∧ (requestLookup s).panel.fill = s.panel.fill
      ∧ (requestLookup s).ev.mask = s.ev.mask := by
  simp only [requestLookup]
  (repeat' split) <;> simp

@[simp] theorem withdrawActive_frame (s : State) :
    (withdrawActive s).now = s.now ∧ (withdrawActive s).pending = s.pending ∧ (withdrawActive s).mon = s.mon
      ∧ (withdrawActive s).overlay = s.overlay ∧ (withdrawActive s).stage = s.stage ∧ (withdrawActive s).ctl = s.ctl
      ∧ (withdrawActive s).cat.length = s.cat.length ∧ (withdrawActive s).pacer.state = s.pacer.state
      ∧ (withdrawActive s).pacer.last = s.pacer.last ∧ (withdrawActive s).store.slots.length = s.store.slots.length
      ∧ (withdrawActive s).panel.profiles = s.panel.profiles ∧ (withdrawActive s).panel.current = s.panel.current
      ∧ (withdrawActive s).panel.fill = s.panel.fill ∧ (withdrawActive s).ev.mask = s.ev.mask := by
  simp [withdrawActive]

@[simp] theorem deactivate_frame (s : State) :
    (deactivate s).now = s.now ∧ (deactivate s).pending = s.pending ∧ (deactivate s).mon = s.mon
      ∧ (deactivate s).overlay = s.overlay ∧ (deactivate s).stage = s.stage ∧ (deactivate s).ctl = s.ctl
      ∧ (deactivate s).cat.length = s.cat.length ∧ (deactivate s).pacer.last = s.pacer.last
      ∧ (deactivate s).store.slots.length = s.store.slots.length ∧ (deactivate s).panel.profiles = s.panel.profiles
      ∧ (deactivate s).panel.current = s.panel.current ∧ (deactivate s).panel.fill = s.panel.fill
      ∧ (deactivate s).ev.mask = s.ev.mask := by
  simp only [deactivate]
  (repeat' split) <;> simp

@[simp] theorem writeReady_frame (slot : Nat) (c : Content) (fit : Fit) (s : State) :
    (writeReady slot c fit s).now = s.now ∧ (writeReady slot c fit s).pending = s.pending
      ∧ (writeReady slot c fit s).mon = s.mon ∧ (writeReady slot c fit s).plan = s.plan
      ∧ (writeReady slot c fit s).pacer = s.pacer ∧ (writeReady slot c fit s).store = s.store
      ∧ (writeReady slot c fit s).panel = s.panel ∧ (writeReady slot c fit s).overlay = s.overlay
      ∧ (writeReady slot c fit s).stage = s.stage ∧ (writeReady slot c fit s).ctl = s.ctl
      ∧ (writeReady slot c fit s).ev = s.ev ∧ (writeReady slot c fit s).cat.length = s.cat.length := by
  simp [writeReady]

@[simp] theorem emptySlot_frame (slot : Nat) (s : State) :
    (emptySlot slot s).now = s.now ∧ (emptySlot slot s).pending = s.pending ∧ (emptySlot slot s).mon = s.mon
      ∧ (emptySlot slot s).plan = s.plan ∧ (emptySlot slot s).pacer = s.pacer ∧ (emptySlot slot s).store = s.store
      ∧ (emptySlot slot s).panel = s.panel ∧ (emptySlot slot s).overlay = s.overlay
      ∧ (emptySlot slot s).stage = s.stage ∧ (emptySlot slot s).ctl = s.ctl ∧ (emptySlot slot s).ev = s.ev
      ∧ (emptySlot slot s).cat.length = s.cat.length := by
  simp [emptySlot]

@[simp] theorem keepActive_frame (slot : Nat) (c : Content) (plan : Plan) (s : State) :
    (keepActive slot c plan s).now = s.now ∧ (keepActive slot c plan s).pending = s.pending
      ∧ (keepActive slot c plan s).mon = s.mon ∧ (keepActive slot c plan s).store = s.store
      ∧ (keepActive slot c plan s).overlay = s.overlay ∧ (keepActive slot c plan s).stage = s.stage
      ∧ (keepActive slot c plan s).ctl = s.ctl ∧ (keepActive slot c plan s).ev = s.ev
      ∧ (keepActive slot c plan s).cat.length = s.cat.length ∧ (keepActive slot c plan s).pacer.state = s.pacer.state
      ∧ (keepActive slot c plan s).pacer.last = s.pacer.last
      ∧ (keepActive slot c plan s).pacer.pending = s.pacer.pending
      ∧ (keepActive slot c plan s).panel.profiles = s.panel.profiles
      ∧ (keepActive slot c plan s).panel.fill = s.panel.fill := by
  simp only [keepActive]
  (repeat' split) <;> simp

@[simp] theorem replaceActive_frame (slot : Nat) (c : Content) (s : State) :
    (replaceActive slot c s).now = s.now ∧ (replaceActive slot c s).pending = s.pending
      ∧ (replaceActive slot c s).mon = s.mon ∧ (replaceActive slot c s).overlay = s.overlay
      ∧ (replaceActive slot c s).stage = s.stage ∧ (replaceActive slot c s).ctl = s.ctl
      ∧ (replaceActive slot c s).cat.length = s.cat.length ∧ (replaceActive slot c s).pacer.last = s.pacer.last
      ∧ (replaceActive slot c s).store.slots.length = s.store.slots.length
      ∧ (replaceActive slot c s).panel.profiles = s.panel.profiles
      ∧ (replaceActive slot c s).panel.fill = s.panel.fill ∧ (replaceActive slot c s).ev.mask = s.ev.mask := by
  simp only [replaceActive]
  (repeat' split) <;> simp

@[simp] theorem applyStore_frame (slot : Nat) (c : Content) (s : State) :
    (applyStore slot c s).now = s.now ∧ (applyStore slot c s).pending = s.pending ∧ (applyStore slot c s).mon = s.mon
      ∧ (applyStore slot c s).overlay = s.overlay ∧ (applyStore slot c s).stage = s.stage
      ∧ (applyStore slot c s).ctl = s.ctl ∧ (applyStore slot c s).cat.length = s.cat.length
      ∧ (applyStore slot c s).pacer.last = s.pacer.last
      ∧ (applyStore slot c s).store.slots.length = s.store.slots.length
      ∧ (applyStore slot c s).panel.profiles = s.panel.profiles ∧ (applyStore slot c s).panel.fill = s.panel.fill
      ∧ (applyStore slot c s).ev.mask = s.ev.mask := by
  simp only [applyStore]
  (repeat' split) <;> simp

@[simp] theorem applyRetire_frame (slot : Nat) (s : State) :
    (applyRetire slot s).now = s.now ∧ (applyRetire slot s).pending = s.pending ∧ (applyRetire slot s).mon = s.mon
      ∧ (applyRetire slot s).overlay = s.overlay ∧ (applyRetire slot s).stage = s.stage
      ∧ (applyRetire slot s).ctl = s.ctl ∧ (applyRetire slot s).cat.length = s.cat.length
      ∧ (applyRetire slot s).pacer.last = s.pacer.last
      ∧ (applyRetire slot s).store.slots.length = s.store.slots.length
      ∧ (applyRetire slot s).panel.profiles = s.panel.profiles ∧ (applyRetire slot s).panel.current = s.panel.current
      ∧ (applyRetire slot s).panel.fill = s.panel.fill ∧ (applyRetire slot s).ev.mask = s.ev.mask := by
  simp only [applyRetire]
  (repeat' split) <;> simp

/-! ### The Change Stage -/

@[simp] theorem applyDefine_frame (win : Nat) (d : WindowDef) (s : State) :
    (applyDefine win d s).now = s.now ∧ (applyDefine win d s).pending = s.pending ∧ (applyDefine win d s).mon = s.mon
      ∧ (applyDefine win d s).cat = s.cat ∧ (applyDefine win d s).plan = s.plan
      ∧ (applyDefine win d s).pacer = s.pacer ∧ (applyDefine win d s).store = s.store
      ∧ (applyDefine win d s).panel = s.panel ∧ (applyDefine win d s).stage = s.stage
      ∧ (applyDefine win d s).ctl = s.ctl ∧ (applyDefine win d s).ev = s.ev
      ∧ (applyDefine win d s).overlay.image = s.overlay.image
      ∧ (applyDefine win d s).overlay.writePtr = s.overlay.writePtr
      ∧ (applyDefine win d s).overlay.windows.length = s.overlay.windows.length := by
  simp [applyDefine]

@[simp] theorem applyPlace_frame (win x y z alpha : Nat) (s : State) :
    (applyPlace win x y z alpha s).now = s.now ∧ (applyPlace win x y z alpha s).pending = s.pending
      ∧ (applyPlace win x y z alpha s).mon = s.mon ∧ (applyPlace win x y z alpha s).cat = s.cat
      ∧ (applyPlace win x y z alpha s).plan = s.plan ∧ (applyPlace win x y z alpha s).pacer = s.pacer
      ∧ (applyPlace win x y z alpha s).store = s.store ∧ (applyPlace win x y z alpha s).panel = s.panel
      ∧ (applyPlace win x y z alpha s).stage = s.stage ∧ (applyPlace win x y z alpha s).ctl = s.ctl
      ∧ (applyPlace win x y z alpha s).ev = s.ev ∧ (applyPlace win x y z alpha s).overlay.image = s.overlay.image
      ∧ (applyPlace win x y z alpha s).overlay.writePtr = s.overlay.writePtr
      ∧ (applyPlace win x y z alpha s).overlay.windows.length = s.overlay.windows.length := by
  simp only [applyPlace]
  (repeat' split) <;> simp

@[simp] theorem applyShow_frame (win : Nat) (shown : Bool) (s : State) :
    (applyShow win shown s).now = s.now ∧ (applyShow win shown s).pending = s.pending
      ∧ (applyShow win shown s).mon = s.mon ∧ (applyShow win shown s).cat = s.cat
      ∧ (applyShow win shown s).plan = s.plan ∧ (applyShow win shown s).pacer = s.pacer
      ∧ (applyShow win shown s).store = s.store ∧ (applyShow win shown s).panel = s.panel
      ∧ (applyShow win shown s).stage = s.stage ∧ (applyShow win shown s).ctl = s.ctl
      ∧ (applyShow win shown s).ev = s.ev ∧ (applyShow win shown s).overlay.image = s.overlay.image
      ∧ (applyShow win shown s).overlay.writePtr = s.overlay.writePtr
      ∧ (applyShow win shown s).overlay.windows.length = s.overlay.windows.length := by
  simp only [applyShow]
  (repeat' split) <;> simp

@[simp] theorem applyRetireWindow_frame (win : Nat) (s : State) :
    (applyRetireWindow win s).now = s.now ∧ (applyRetireWindow win s).pending = s.pending
      ∧ (applyRetireWindow win s).mon = s.mon ∧ (applyRetireWindow win s).cat = s.cat
      ∧ (applyRetireWindow win s).plan = s.plan ∧ (applyRetireWindow win s).pacer = s.pacer
      ∧ (applyRetireWindow win s).store = s.store ∧ (applyRetireWindow win s).panel = s.panel
      ∧ (applyRetireWindow win s).stage = s.stage ∧ (applyRetireWindow win s).ctl = s.ctl
      ∧ (applyRetireWindow win s).ev = s.ev ∧ (applyRetireWindow win s).overlay.image = s.overlay.image
      ∧ (applyRetireWindow win s).overlay.writePtr = s.overlay.writePtr
      ∧ (applyRetireWindow win s).overlay.windows.length = s.overlay.windows.length := by
  simp only [applyRetireWindow]
  (repeat' split) <;> simp

@[simp] theorem applyFill_frame (c : Colour) (s : State) :
    (applyFill c s).now = s.now ∧ (applyFill c s).pending = s.pending ∧ (applyFill c s).mon = s.mon
      ∧ (applyFill c s).cat = s.cat ∧ (applyFill c s).plan = s.plan ∧ (applyFill c s).pacer = s.pacer
      ∧ (applyFill c s).store = s.store ∧ (applyFill c s).overlay = s.overlay ∧ (applyFill c s).stage = s.stage
      ∧ (applyFill c s).ctl = s.ctl ∧ (applyFill c s).ev = s.ev ∧ (applyFill c s).panel.profiles = s.panel.profiles
      ∧ (applyFill c s).panel.current = s.panel.current ∧ (applyFill c s).panel.phase = s.panel.phase := by
  simp [applyFill]

@[simp] theorem applyEdit_frame (e : Edit) (s : State) :
    (applyEdit e s).now = s.now ∧ (applyEdit e s).pending = s.pending ∧ (applyEdit e s).mon = s.mon
      ∧ (applyEdit e s).stage = s.stage ∧ (applyEdit e s).ctl = s.ctl ∧ (applyEdit e s).cat.length = s.cat.length
      ∧ (applyEdit e s).pacer.last = s.pacer.last ∧ (applyEdit e s).store.slots.length = s.store.slots.length
      ∧ (applyEdit e s).panel.profiles = s.panel.profiles ∧ (applyEdit e s).overlay.image = s.overlay.image
      ∧ (applyEdit e s).overlay.writePtr = s.overlay.writePtr
      ∧ (applyEdit e s).overlay.windows.length = s.overlay.windows.length ∧ (applyEdit e s).ev.mask = s.ev.mask := by
  simp only [applyEdit]
  (repeat' split) <;> simp

@[simp] theorem emptyStage_frame (s : State) :
    (emptyStage s).now = s.now ∧ (emptyStage s).pending = s.pending ∧ (emptyStage s).mon = s.mon
      ∧ (emptyStage s).cat = s.cat ∧ (emptyStage s).plan = s.plan ∧ (emptyStage s).pacer = s.pacer
      ∧ (emptyStage s).store = s.store ∧ (emptyStage s).panel = s.panel ∧ (emptyStage s).overlay = s.overlay
      ∧ (emptyStage s).ctl = s.ctl ∧ (emptyStage s).ev = s.ev ∧ (emptyStage s).stage.groupOpen = s.stage.groupOpen := by
  simp [emptyStage]

@[simp] theorem holdExitReport_frame (visible : Bool) (s : State) :
    (holdExitReport visible s).now = s.now ∧ (holdExitReport visible s).pending = s.pending
      ∧ (holdExitReport visible s).mon = s.mon ∧ (holdExitReport visible s).cat = s.cat
      ∧ (holdExitReport visible s).plan = s.plan ∧ (holdExitReport visible s).store = s.store
      ∧ (holdExitReport visible s).panel = s.panel ∧ (holdExitReport visible s).overlay = s.overlay
      ∧ (holdExitReport visible s).stage = s.stage ∧ (holdExitReport visible s).ctl = s.ctl
      ∧ (holdExitReport visible s).ev = s.ev ∧ (holdExitReport visible s).pacer.last = s.pacer.last
      ∧ (holdExitReport visible s).pacer.tracking = s.pacer.tracking
      ∧ (holdExitReport visible s).pacer.pending = s.pacer.pending := by
  simp only [holdExitReport]
  (repeat' split) <;> simp

@[simp] theorem stageLookup_frame (catalogue active : Bool) (s : State) :
    (stageLookup catalogue active s).now = s.now ∧ (stageLookup catalogue active s).pending = s.pending
      ∧ (stageLookup catalogue active s).mon = s.mon ∧ (stageLookup catalogue active s).store = s.store
      ∧ (stageLookup catalogue active s).overlay = s.overlay ∧ (stageLookup catalogue active s).stage = s.stage
      ∧ (stageLookup catalogue active s).ctl = s.ctl ∧ (stageLookup catalogue active s).cat.length = s.cat.length
      ∧ (stageLookup catalogue active s).pacer.last = s.pacer.last
      ∧ (stageLookup catalogue active s).pacer.pending = s.pacer.pending
      ∧ (stageLookup catalogue active s).panel.profiles = s.panel.profiles
      ∧ (stageLookup catalogue active s).panel.fill = s.panel.fill
      ∧ (stageLookup catalogue active s).ev.mask = s.ev.mask := by
  simp only [stageLookup]
  (repeat' split) <;> simp

@[simp] theorem appFold_frame (edits : List Edit) (a : Application) :
    (List.foldl Application.take a edits).st.now = a.st.now
      ∧ (List.foldl Application.take a edits).st.pending = a.st.pending
      ∧ (List.foldl Application.take a edits).st.mon = a.st.mon
      ∧ (List.foldl Application.take a edits).st.stage = a.st.stage
      ∧ (List.foldl Application.take a edits).st.ctl = a.st.ctl
      ∧ (List.foldl Application.take a edits).st.cat.length = a.st.cat.length
      ∧ (List.foldl Application.take a edits).st.pacer.last = a.st.pacer.last
      ∧ (List.foldl Application.take a edits).st.store.slots.length = a.st.store.slots.length
      ∧ (List.foldl Application.take a edits).st.panel.profiles = a.st.panel.profiles
      ∧ (List.foldl Application.take a edits).st.overlay.image = a.st.overlay.image
      ∧ (List.foldl Application.take a edits).st.overlay.writePtr = a.st.overlay.writePtr
      ∧ (List.foldl Application.take a edits).st.overlay.windows.length = a.st.overlay.windows.length
      ∧ (List.foldl Application.take a edits).st.ev.mask = a.st.ev.mask := by
  induction edits generalizing a with
  | nil => simp
  | cons e l ih => simp only [List.foldl_cons]; simp only [ih]; simp [Application.take]

@[simp] theorem applyList_frame (edits : List Edit) (s : State) :
    (applyList edits s).now = s.now ∧ (applyList edits s).pending = s.pending ∧ (applyList edits s).mon = s.mon
      ∧ (applyList edits s).ctl = s.ctl ∧ (applyList edits s).cat.length = s.cat.length
      ∧ (applyList edits s).pacer.last = s.pacer.last ∧ (applyList edits s).store.slots.length = s.store.slots.length
      ∧ (applyList edits s).panel.profiles = s.panel.profiles ∧ (applyList edits s).overlay.image = s.overlay.image
      ∧ (applyList edits s).overlay.writePtr = s.overlay.writePtr
      ∧ (applyList edits s).overlay.windows.length = s.overlay.windows.length
      ∧ (applyList edits s).ev.mask = s.ev.mask ∧ (applyList edits s).stage.groupOpen = s.stage.groupOpen := by
  simp [applyList]

@[simp] theorem applicationPoint_frame (s : State) :
    (applicationPoint s).now = s.now ∧ (applicationPoint s).pending = s.pending ∧ (applicationPoint s).mon = s.mon
      ∧ (applicationPoint s).ctl = s.ctl ∧ (applicationPoint s).cat.length = s.cat.length
      ∧ (applicationPoint s).pacer.last = s.pacer.last
      ∧ (applicationPoint s).store.slots.length = s.store.slots.length
      ∧ (applicationPoint s).panel.profiles = s.panel.profiles ∧ (applicationPoint s).overlay.image = s.overlay.image
      ∧ (applicationPoint s).overlay.writePtr = s.overlay.writePtr
      ∧ (applicationPoint s).overlay.windows.length = s.overlay.windows.length
      ∧ (applicationPoint s).ev.mask = s.ev.mask ∧ (applicationPoint s).stage.groupOpen = s.stage.groupOpen := by
  simp only [applicationPoint]
  (repeat' split) <;> simp

@[simp] theorem acceptEdit_frame (e : Edit) (s : State) :
    (acceptEdit e s).now = s.now ∧ (acceptEdit e s).pending = s.pending ∧ (acceptEdit e s).mon = s.mon
      ∧ (acceptEdit e s).ctl = s.ctl ∧ (acceptEdit e s).cat.length = s.cat.length
      ∧ (acceptEdit e s).pacer.last = s.pacer.last ∧ (acceptEdit e s).store.slots.length = s.store.slots.length
      ∧ (acceptEdit e s).panel.profiles = s.panel.profiles ∧ (acceptEdit e s).overlay.image = s.overlay.image
      ∧ (acceptEdit e s).overlay.writePtr = s.overlay.writePtr
      ∧ (acceptEdit e s).overlay.windows.length = s.overlay.windows.length ∧ (acceptEdit e s).ev.mask = s.ev.mask
      ∧ (acceptEdit e s).stage.groupOpen = s.stage.groupOpen := by
  simp only [acceptEdit]
  (repeat' split) <;> simp

@[simp] theorem storeScanEnd_frame (kind : LaunchKind) (s : State) :
    (storeScanEnd kind s).now = s.now ∧ (storeScanEnd kind s).pending = s.pending ∧ (storeScanEnd kind s).mon = s.mon
      ∧ (storeScanEnd kind s).cat = s.cat ∧ (storeScanEnd kind s).plan = s.plan
      ∧ (storeScanEnd kind s).pacer = s.pacer ∧ (storeScanEnd kind s).panel = s.panel
      ∧ (storeScanEnd kind s).overlay = s.overlay ∧ (storeScanEnd kind s).stage = s.stage
      ∧ (storeScanEnd kind s).ctl = s.ctl ∧ (storeScanEnd kind s).ev = s.ev
      ∧ (storeScanEnd kind s).store.slots.length = s.store.slots.length := by
  simp only [storeScanEnd]
  (repeat' split) <;> simp

@[simp] theorem scanEndOf_frame (f : PanelFrame) (s : State) :
    (scanEndOf f s).now = s.now ∧ (scanEndOf f s).pending = s.pending ∧ (scanEndOf f s).mon = s.mon
      ∧ (scanEndOf f s).ctl = s.ctl ∧ (scanEndOf f s).cat.length = s.cat.length
      ∧ (scanEndOf f s).pacer.last = s.pacer.last ∧ (scanEndOf f s).store.slots.length = s.store.slots.length
      ∧ (scanEndOf f s).panel.profiles = s.panel.profiles ∧ (scanEndOf f s).overlay.image = s.overlay.image
      ∧ (scanEndOf f s).overlay.writePtr = s.overlay.writePtr
      ∧ (scanEndOf f s).overlay.windows.length = s.overlay.windows.length ∧ (scanEndOf f s).ev.mask = s.ev.mask
      ∧ (scanEndOf f s).stage.groupOpen = s.stage.groupOpen := by
  simp [scanEndOf]

@[simp] theorem switchEndOf_frame (endAt : Nat) (stageFirst : Bool) (s : State) :
    (switchEndOf endAt stageFirst s).now = s.now ∧ (switchEndOf endAt stageFirst s).pending = s.pending
      ∧ (switchEndOf endAt stageFirst s).mon = s.mon ∧ (switchEndOf endAt stageFirst s).ctl = s.ctl
      ∧ (switchEndOf endAt stageFirst s).cat.length = s.cat.length
      ∧ (switchEndOf endAt stageFirst s).store.slots.length = s.store.slots.length
      ∧ (switchEndOf endAt stageFirst s).panel.profiles = s.panel.profiles
      ∧ (switchEndOf endAt stageFirst s).overlay.image = s.overlay.image
      ∧ (switchEndOf endAt stageFirst s).overlay.writePtr = s.overlay.writePtr
      ∧ (switchEndOf endAt stageFirst s).overlay.windows.length = s.overlay.windows.length
      ∧ (switchEndOf endAt stageFirst s).ev.mask = s.ev.mask
      ∧ (switchEndOf endAt stageFirst s).stage.groupOpen = s.stage.groupOpen := by
  simp only [switchEndOf]
  (repeat' split) <;> simp

@[simp] theorem launchPending_frame (x : PendingLaunch) (s : State) :
    (launchPending x s).now = s.now ∧ (launchPending x s).pending = s.pending ∧ (launchPending x s).mon = s.mon
      ∧ (launchPending x s).ctl = s.ctl ∧ (launchPending x s).cat.length = s.cat.length
      ∧ (launchPending x s).store.slots.length = s.store.slots.length
      ∧ (launchPending x s).panel.profiles = s.panel.profiles ∧ (launchPending x s).overlay.image = s.overlay.image
      ∧ (launchPending x s).overlay.writePtr = s.overlay.writePtr
      ∧ (launchPending x s).overlay.windows.length = s.overlay.windows.length
      ∧ (launchPending x s).ev.mask = s.ev.mask ∧ (launchPending x s).stage.groupOpen = s.stage.groupOpen := by
  simp only [launchPending]
  (repeat' split) <;> simp

@[simp] theorem launchAtOnce_frame (s : State) :
    (launchAtOnce s).now = s.now ∧ (launchAtOnce s).pending = s.pending ∧ (launchAtOnce s).mon = s.mon
      ∧ (launchAtOnce s).ctl = s.ctl ∧ (launchAtOnce s).cat.length = s.cat.length
      ∧ (launchAtOnce s).store.slots.length = s.store.slots.length
      ∧ (launchAtOnce s).panel.profiles = s.panel.profiles ∧ (launchAtOnce s).overlay.image = s.overlay.image
      ∧ (launchAtOnce s).overlay.writePtr = s.overlay.writePtr
      ∧ (launchAtOnce s).overlay.windows.length = s.overlay.windows.length ∧ (launchAtOnce s).ev.mask = s.ev.mask
      ∧ (launchAtOnce s).stage.groupOpen = s.stage.groupOpen := by
  simp only [launchAtOnce]
  (repeat' split) <;> simp

@[simp] theorem deliverFrameStart_frame (s : State) :
    (deliverFrameStart s).now = s.now ∧ (deliverFrameStart s).pending = s.pending ∧ (deliverFrameStart s).mon = s.mon
      ∧ (deliverFrameStart s).ctl = s.ctl ∧ (deliverFrameStart s).cat.length = s.cat.length
      ∧ (deliverFrameStart s).store.slots.length = s.store.slots.length
      ∧ (deliverFrameStart s).panel.profiles = s.panel.profiles
      ∧ (deliverFrameStart s).overlay.image = s.overlay.image
      ∧ (deliverFrameStart s).overlay.writePtr = s.overlay.writePtr
      ∧ (deliverFrameStart s).overlay.windows.length = s.overlay.windows.length
      ∧ (deliverFrameStart s).ev.mask = s.ev.mask ∧ (deliverFrameStart s).stage.groupOpen = s.stage.groupOpen := by
  simp only [deliverFrameStart]
  (repeat' split) <;> simp

/-! ### The monitor -/

@[simp] theorem setMonState_frame (m : MonState) (s : State) :
    (setMonState m s).now = s.now ∧ (setMonState m s).pending = s.pending ∧ (setMonState m s).cat = s.cat
      ∧ (setMonState m s).plan = s.plan ∧ (setMonState m s).pacer = s.pacer ∧ (setMonState m s).store = s.store
      ∧ (setMonState m s).panel = s.panel ∧ (setMonState m s).overlay = s.overlay ∧ (setMonState m s).stage = s.stage
      ∧ (setMonState m s).ctl = s.ctl ∧ (setMonState m s).ev = s.ev ∧ (setMonState m s).mon.obs = s.mon.obs := by
  simp [setMonState]

@[simp] theorem clearPeriods_frame (s : State) :
    (clearPeriods s).now = s.now ∧ (clearPeriods s).pending = s.pending ∧ (clearPeriods s).cat = s.cat
      ∧ (clearPeriods s).plan = s.plan ∧ (clearPeriods s).pacer = s.pacer ∧ (clearPeriods s).store = s.store
      ∧ (clearPeriods s).panel = s.panel ∧ (clearPeriods s).overlay = s.overlay ∧ (clearPeriods s).stage = s.stage
      ∧ (clearPeriods s).ctl = s.ctl ∧ (clearPeriods s).ev = s.ev ∧ (clearPeriods s).mon.state = s.mon.state
      ∧ (clearPeriods s).mon.obs = s.mon.obs := by
  simp [clearPeriods]

@[simp] theorem takeIn_frame (f : SourceFrame) (s : State) :
    (takeIn f s).now = s.now ∧ (takeIn f s).pending = s.pending ∧ (takeIn f s).cat = s.cat
      ∧ (takeIn f s).plan = s.plan ∧ (takeIn f s).pacer = s.pacer ∧ (takeIn f s).store = s.store
      ∧ (takeIn f s).panel = s.panel ∧ (takeIn f s).overlay = s.overlay ∧ (takeIn f s).stage = s.stage
      ∧ (takeIn f s).ctl = s.ctl ∧ (takeIn f s).ev = s.ev ∧ (takeIn f s).mon.state = s.mon.state := by
  simp [takeIn]

@[simp] theorem leaveRest_frame (s : State) :
    (leaveRest s).now = s.now ∧ (leaveRest s).pending = s.pending ∧ (leaveRest s).mon = s.mon
      ∧ (leaveRest s).store = s.store ∧ (leaveRest s).overlay = s.overlay ∧ (leaveRest s).stage = s.stage
      ∧ (leaveRest s).ctl = s.ctl ∧ (leaveRest s).cat.length = s.cat.length ∧ (leaveRest s).pacer.last = s.pacer.last
      ∧ (leaveRest s).pacer.pending = s.pacer.pending ∧ (leaveRest s).panel.profiles = s.panel.profiles
      ∧ (leaveRest s).panel.fill = s.panel.fill ∧ (leaveRest s).ev.mask = s.ev.mask := by
  simp [leaveRest]

@[simp] theorem settle_frame (s : State) :
    (settle s).now = s.now ∧ (settle s).pending = s.pending ∧ (settle s).store = s.store
      ∧ (settle s).overlay = s.overlay ∧ (settle s).stage = s.stage ∧ (settle s).ctl = s.ctl
      ∧ (settle s).cat.length = s.cat.length ∧ (settle s).pacer.last = s.pacer.last
      ∧ (settle s).pacer.pending = s.pacer.pending ∧ (settle s).panel.profiles = s.panel.profiles
      ∧ (settle s).panel.fill = s.panel.fill ∧ (settle s).ev.mask = s.ev.mask := by
  simp only [settle]
  (repeat' split) <;> simp

@[simp] theorem declareChange_frame (s : State) :
    (declareChange s).now = s.now ∧ (declareChange s).pending = s.pending ∧ (declareChange s).overlay = s.overlay
      ∧ (declareChange s).stage = s.stage ∧ (declareChange s).ctl = s.ctl ∧ (declareChange s).mon.obs = s.mon.obs
      ∧ (declareChange s).cat.length = s.cat.length ∧ (declareChange s).pacer.last = s.pacer.last
      ∧ (declareChange s).store.slots.length = s.store.slots.length
      ∧ (declareChange s).panel.profiles = s.panel.profiles ∧ (declareChange s).panel.current = s.panel.current
      ∧ (declareChange s).panel.fill = s.panel.fill ∧ (declareChange s).ev.mask = s.ev.mask := by
  simp [declareChange]

@[simp] theorem declareLoss_frame (s : State) :
    (declareLoss s).now = s.now ∧ (declareLoss s).pending = s.pending ∧ (declareLoss s).overlay = s.overlay
      ∧ (declareLoss s).stage = s.stage ∧ (declareLoss s).ctl = s.ctl ∧ (declareLoss s).cat.length = s.cat.length
      ∧ (declareLoss s).pacer.last = s.pacer.last ∧ (declareLoss s).store.slots.length = s.store.slots.length
      ∧ (declareLoss s).panel.profiles = s.panel.profiles ∧ (declareLoss s).panel.current = s.panel.current
      ∧ (declareLoss s).panel.fill = s.panel.fill ∧ (declareLoss s).ev.mask = s.ev.mask := by
  simp only [declareLoss]
  (repeat' split) <;> simp

@[simp] theorem candidateEnd_frame (f : SourceFrame) (s : State) :
    (candidateEnd f s).now = s.now ∧ (candidateEnd f s).pending = s.pending ∧ (candidateEnd f s).store = s.store
      ∧ (candidateEnd f s).overlay = s.overlay ∧ (candidateEnd f s).stage = s.stage ∧ (candidateEnd f s).ctl = s.ctl
      ∧ (candidateEnd f s).cat.length = s.cat.length ∧ (candidateEnd f s).pacer.last = s.pacer.last
      ∧ (candidateEnd f s).pacer.pending = s.pacer.pending ∧ (candidateEnd f s).panel.profiles = s.panel.profiles
      ∧ (candidateEnd f s).panel.fill = s.panel.fill ∧ (candidateEnd f s).ev.mask = s.ev.mask := by
  simp only [candidateEnd]
  (repeat' split) <;> simp

@[simp] theorem frameEndActs_frame (f : SourceFrame) (s : State) :
    (frameEndActs f s).now = s.now ∧ (frameEndActs f s).pending = s.pending ∧ (frameEndActs f s).overlay = s.overlay
      ∧ (frameEndActs f s).stage = s.stage ∧ (frameEndActs f s).ctl = s.ctl
      ∧ (frameEndActs f s).cat.length = s.cat.length ∧ (frameEndActs f s).pacer.last = s.pacer.last
      ∧ (frameEndActs f s).store.slots.length = s.store.slots.length
      ∧ (frameEndActs f s).panel.profiles = s.panel.profiles ∧ (frameEndActs f s).panel.fill = s.panel.fill
      ∧ (frameEndActs f s).ev.mask = s.ev.mask := by
  simp only [frameEndActs]
  (repeat' split) <;> simp

@[simp] theorem frameEnd_frame (s : State) :
    (frameEnd s).now = s.now ∧ (frameEnd s).pending = s.pending ∧ (frameEnd s).overlay = s.overlay
      ∧ (frameEnd s).stage = s.stage ∧ (frameEnd s).ctl = s.ctl ∧ (frameEnd s).cat.length = s.cat.length
      ∧ (frameEnd s).pacer.last = s.pacer.last ∧ (frameEnd s).store.slots.length = s.store.slots.length
      ∧ (frameEnd s).panel.profiles = s.panel.profiles ∧ (frameEnd s).panel.fill = s.panel.fill
      ∧ (frameEnd s).ev.mask = s.ev.mask := by
  simp only [frameEnd]
  (repeat' split) <;> simp

@[simp] theorem signalAppears_frame (s : State) :
    (signalAppears s).now = s.now ∧ (signalAppears s).pending = s.pending ∧ (signalAppears s).cat = s.cat
      ∧ (signalAppears s).plan = s.plan ∧ (signalAppears s).store = s.store ∧ (signalAppears s).panel = s.panel
      ∧ (signalAppears s).overlay = s.overlay ∧ (signalAppears s).stage = s.stage ∧ (signalAppears s).ctl = s.ctl
      ∧ (signalAppears s).ev = s.ev ∧ (signalAppears s).mon.obs = s.mon.obs
      ∧ (signalAppears s).pacer.state = s.pacer.state ∧ (signalAppears s).pacer.last = s.pacer.last
      ∧ (signalAppears s).pacer.tracking = s.pacer.tracking ∧ (signalAppears s).pacer.pending = s.pacer.pending := by
  simp [signalAppears]

@[simp] theorem recordPeriod_frame (s : State) :
    (recordPeriod s).now = s.now ∧ (recordPeriod s).pending = s.pending ∧ (recordPeriod s).cat = s.cat
      ∧ (recordPeriod s).plan = s.plan ∧ (recordPeriod s).pacer = s.pacer ∧ (recordPeriod s).store = s.store
      ∧ (recordPeriod s).panel = s.panel ∧ (recordPeriod s).overlay = s.overlay ∧ (recordPeriod s).stage = s.stage
      ∧ (recordPeriod s).ctl = s.ctl ∧ (recordPeriod s).ev = s.ev ∧ (recordPeriod s).mon.state = s.mon.state
      ∧ (recordPeriod s).mon.obs = s.mon.obs := by
  simp [recordPeriod]

@[simp] theorem beginSourceFrame_frame (format : Format) (depth : Depth) (vrr game : Bool) (s : State) :
    (beginSourceFrame format depth vrr game s).now = s.now
      ∧ (beginSourceFrame format depth vrr game s).pending = s.pending
      ∧ (beginSourceFrame format depth vrr game s).cat = s.cat
      ∧ (beginSourceFrame format depth vrr game s).plan = s.plan
      ∧ (beginSourceFrame format depth vrr game s).pacer = s.pacer
      ∧ (beginSourceFrame format depth vrr game s).store = s.store
      ∧ (beginSourceFrame format depth vrr game s).panel = s.panel
      ∧ (beginSourceFrame format depth vrr game s).overlay = s.overlay
      ∧ (beginSourceFrame format depth vrr game s).stage = s.stage
      ∧ (beginSourceFrame format depth vrr game s).ctl = s.ctl ∧ (beginSourceFrame format depth vrr game s).ev = s.ev
      ∧ (beginSourceFrame format depth vrr game s).mon.state = s.mon.state
      ∧ (beginSourceFrame format depth vrr game s).mon.obs = s.mon.obs := by
  simp [beginSourceFrame]

@[simp] theorem sampleGame_frame (game : Bool) (s : State) :
    (sampleGame game s).now = s.now ∧ (sampleGame game s).pending = s.pending ∧ (sampleGame game s).cat = s.cat
      ∧ (sampleGame game s).plan = s.plan ∧ (sampleGame game s).pacer = s.pacer ∧ (sampleGame game s).store = s.store
      ∧ (sampleGame game s).panel = s.panel ∧ (sampleGame game s).overlay = s.overlay
      ∧ (sampleGame game s).stage = s.stage ∧ (sampleGame game s).ctl = s.ctl
      ∧ (sampleGame game s).mon.state = s.mon.state ∧ (sampleGame game s).ev.mask = s.ev.mask := by
  simp only [sampleGame]
  (repeat' split) <;> simp

@[simp] theorem sampleChange_frame (format : Format) (depth : Depth) (vrr : Bool) (s : State) :
    (sampleChange format depth vrr s).now = s.now ∧ (sampleChange format depth vrr s).pending = s.pending
      ∧ (sampleChange format depth vrr s).overlay = s.overlay ∧ (sampleChange format depth vrr s).stage = s.stage
      ∧ (sampleChange format depth vrr s).ctl = s.ctl ∧ (sampleChange format depth vrr s).mon.obs = s.mon.obs
      ∧ (sampleChange format depth vrr s).cat.length = s.cat.length
      ∧ (sampleChange format depth vrr s).pacer.last = s.pacer.last
      ∧ (sampleChange format depth vrr s).store.slots.length = s.store.slots.length
      ∧ (sampleChange format depth vrr s).panel.profiles = s.panel.profiles
      ∧ (sampleChange format depth vrr s).panel.current = s.panel.current
      ∧ (sampleChange format depth vrr s).panel.fill = s.panel.fill
      ∧ (sampleChange format depth vrr s).ev.mask = s.ev.mask := by
  simp only [sampleChange]
  (repeat' split) <;> simp

@[simp] theorem acceptFrameStart_frame (format : Format) (depth : Depth) (vrr game : Bool) (s : State) :
    (acceptFrameStart format depth vrr game s).now = s.now
      ∧ (acceptFrameStart format depth vrr game s).pending = s.pending
      ∧ (acceptFrameStart format depth vrr game s).ctl = s.ctl
      ∧ (acceptFrameStart format depth vrr game s).cat.length = s.cat.length
      ∧ (acceptFrameStart format depth vrr game s).store.slots.length = s.store.slots.length
      ∧ (acceptFrameStart format depth vrr game s).panel.profiles = s.panel.profiles
      ∧ (acceptFrameStart format depth vrr game s).overlay.image = s.overlay.image
      ∧ (acceptFrameStart format depth vrr game s).overlay.writePtr = s.overlay.writePtr
      ∧ (acceptFrameStart format depth vrr game s).overlay.windows.length = s.overlay.windows.length
      ∧ (acceptFrameStart format depth vrr game s).ev.mask = s.ev.mask
      ∧ (acceptFrameStart format depth vrr game s).stage.groupOpen = s.stage.groupOpen := by
  simp [acceptFrameStart]

@[simp] theorem frameStart_frame (signalOk : Bool) (format : Format) (depth : Depth) (vrr game : Bool) (s : State) :
    (frameStart signalOk format depth vrr game s).now = s.now
      ∧ (frameStart signalOk format depth vrr game s).pending = s.pending
      ∧ (frameStart signalOk format depth vrr game s).ctl = s.ctl
      ∧ (frameStart signalOk format depth vrr game s).cat.length = s.cat.length
      ∧ (frameStart signalOk format depth vrr game s).store.slots.length = s.store.slots.length
      ∧ (frameStart signalOk format depth vrr game s).panel.profiles = s.panel.profiles
      ∧ (frameStart signalOk format depth vrr game s).overlay.image = s.overlay.image
      ∧ (frameStart signalOk format depth vrr game s).overlay.writePtr = s.overlay.writePtr
      ∧ (frameStart signalOk format depth vrr game s).overlay.windows.length = s.overlay.windows.length
      ∧ (frameStart signalOk format depth vrr game s).ev.mask = s.ev.mask
      ∧ (frameStart signalOk format depth vrr game s).stage.groupOpen = s.stage.groupOpen := by
  simp only [frameStart]
  (repeat' split) <;> simp

@[simp] theorem closeAtLineStart_frame (l : SourceLine) (s : State) :
    (closeAtLineStart l s).now = s.now ∧ (closeAtLineStart l s).pending = s.pending
      ∧ (closeAtLineStart l s).overlay = s.overlay ∧ (closeAtLineStart l s).stage = s.stage
      ∧ (closeAtLineStart l s).ctl = s.ctl ∧ (closeAtLineStart l s).cat.length = s.cat.length
      ∧ (closeAtLineStart l s).pacer.last = s.pacer.last
      ∧ (closeAtLineStart l s).store.slots.length = s.store.slots.length
      ∧ (closeAtLineStart l s).panel.profiles = s.panel.profiles ∧ (closeAtLineStart l s).panel.fill = s.panel.fill
      ∧ (closeAtLineStart l s).ev.mask = s.ev.mask := by
  simp only [closeAtLineStart]
  (repeat' split) <;> simp

@[simp] theorem lineStart_frame (s : State) :
    (lineStart s).now = s.now ∧ (lineStart s).pending = s.pending ∧ (lineStart s).overlay = s.overlay
      ∧ (lineStart s).stage = s.stage ∧ (lineStart s).ctl = s.ctl ∧ (lineStart s).cat.length = s.cat.length
      ∧ (lineStart s).pacer.last = s.pacer.last ∧ (lineStart s).store.slots.length = s.store.slots.length
      ∧ (lineStart s).panel.profiles = s.panel.profiles ∧ (lineStart s).panel.fill = s.panel.fill
      ∧ (lineStart s).ev.mask = s.ev.mask := by
  simp only [lineStart]
  (repeat' split) <;> simp

@[simp] theorem activeLineChange_frame (i ls : Nat) (s : State) :
    (activeLineChange i ls s).now = s.now ∧ (activeLineChange i ls s).pending = s.pending
      ∧ (activeLineChange i ls s).overlay = s.overlay ∧ (activeLineChange i ls s).stage = s.stage
      ∧ (activeLineChange i ls s).ctl = s.ctl ∧ (activeLineChange i ls s).mon.obs = s.mon.obs
      ∧ (activeLineChange i ls s).cat.length = s.cat.length ∧ (activeLineChange i ls s).pacer.last = s.pacer.last
      ∧ (activeLineChange i ls s).store.slots.length = s.store.slots.length
      ∧ (activeLineChange i ls s).panel.profiles = s.panel.profiles
      ∧ (activeLineChange i ls s).panel.current = s.panel.current
      ∧ (activeLineChange i ls s).panel.fill = s.panel.fill ∧ (activeLineChange i ls s).ev.mask = s.ev.mask := by
  simp only [activeLineChange]
  (repeat' split) <;> simp

@[simp] theorem activeLineStart_frame (storeFirst : Bool) (s : State) :
    (activeLineStart storeFirst s).now = s.now ∧ (activeLineStart storeFirst s).pending = s.pending
      ∧ (activeLineStart storeFirst s).overlay = s.overlay ∧ (activeLineStart storeFirst s).stage = s.stage
      ∧ (activeLineStart storeFirst s).ctl = s.ctl ∧ (activeLineStart storeFirst s).mon.obs = s.mon.obs
      ∧ (activeLineStart storeFirst s).cat.length = s.cat.length
      ∧ (activeLineStart storeFirst s).pacer.last = s.pacer.last
      ∧ (activeLineStart storeFirst s).panel.profiles = s.panel.profiles
      ∧ (activeLineStart storeFirst s).panel.current = s.panel.current
      ∧ (activeLineStart storeFirst s).panel.fill = s.panel.fill ∧ (activeLineStart storeFirst s).ev.mask = s.ev.mask := by
  simp only [activeLineStart]
  (repeat' split) <;> simp

@[simp] theorem pixelTransfer_frame (ps : List RawPixel) (s : State) :
    (pixelTransfer ps s).now = s.now ∧ (pixelTransfer ps s).pending = s.pending
      ∧ (pixelTransfer ps s).overlay = s.overlay ∧ (pixelTransfer ps s).stage = s.stage
      ∧ (pixelTransfer ps s).ctl = s.ctl ∧ (pixelTransfer ps s).mon.obs = s.mon.obs
      ∧ (pixelTransfer ps s).cat.length = s.cat.length ∧ (pixelTransfer ps s).pacer.last = s.pacer.last
      ∧ (pixelTransfer ps s).store.slots.length = s.store.slots.length
      ∧ (pixelTransfer ps s).panel.profiles = s.panel.profiles ∧ (pixelTransfer ps s).panel.current = s.panel.current
      ∧ (pixelTransfer ps s).panel.fill = s.panel.fill ∧ (pixelTransfer ps s).ev.mask = s.ev.mask := by
  simp only [pixelTransfer]
  (repeat' split) <;> simp

@[simp] theorem lineComplete_frame (s : State) :
    (lineComplete s).now = s.now ∧ (lineComplete s).pending = s.pending ∧ (lineComplete s).cat = s.cat
      ∧ (lineComplete s).plan = s.plan ∧ (lineComplete s).pacer = s.pacer ∧ (lineComplete s).panel = s.panel
      ∧ (lineComplete s).overlay = s.overlay ∧ (lineComplete s).stage = s.stage ∧ (lineComplete s).ctl = s.ctl
      ∧ (lineComplete s).ev = s.ev ∧ (lineComplete s).mon.state = s.mon.state ∧ (lineComplete s).mon.obs = s.mon.obs
      ∧ (lineComplete s).store.slots.length = s.store.slots.length := by
  simp only [lineComplete]
  (repeat' split) <;> simp

/-! ### The pixel input -/

@[simp] theorem lossFrom_frame (s : State) :
    (lossFrom s).now = s.now ∧ (lossFrom s).pending = s.pending ∧ (lossFrom s).overlay = s.overlay
      ∧ (lossFrom s).stage = s.stage ∧ (lossFrom s).ctl = s.ctl ∧ (lossFrom s).cat.length = s.cat.length
      ∧ (lossFrom s).pacer.last = s.pacer.last ∧ (lossFrom s).store.slots.length = s.store.slots.length
      ∧ (lossFrom s).panel.profiles = s.panel.profiles ∧ (lossFrom s).panel.current = s.panel.current
      ∧ (lossFrom s).panel.fill = s.panel.fill ∧ (lossFrom s).ev.mask = s.ev.mask := by
  simp only [lossFrom]
  (repeat' split) <;> simp

/-! ### The panel frame -/

@[simp] theorem baseLine_frame (f : PanelFrame) (s : State) :
    (baseLine f s).1.now = s.now ∧ (baseLine f s).1.pending = s.pending ∧ (baseLine f s).1.mon = s.mon
      ∧ (baseLine f s).1.plan = s.plan ∧ (baseLine f s).1.pacer = s.pacer ∧ (baseLine f s).1.panel = s.panel
      ∧ (baseLine f s).1.overlay = s.overlay ∧ (baseLine f s).1.stage = s.stage ∧ (baseLine f s).1.ctl = s.ctl
      ∧ (baseLine f s).1.cat.length = s.cat.length ∧ (baseLine f s).1.store.slots.length = s.store.slots.length
      ∧ (baseLine f s).1.ev.mask = s.ev.mask := by
  simp only [baseLine]
  (repeat' split) <;> simp

@[simp] theorem sendLine_frame (f : PanelFrame) (line : Option (List Colour)) (s : State) :
    (sendLine f line s).now = s.now ∧ (sendLine f line s).pending = s.pending ∧ (sendLine f line s).mon = s.mon
      ∧ (sendLine f line s).cat = s.cat ∧ (sendLine f line s).plan = s.plan ∧ (sendLine f line s).pacer = s.pacer
      ∧ (sendLine f line s).store = s.store ∧ (sendLine f line s).overlay = s.overlay
      ∧ (sendLine f line s).stage = s.stage ∧ (sendLine f line s).ctl = s.ctl ∧ (sendLine f line s).ev = s.ev
      ∧ (sendLine f line s).panel.profiles = s.panel.profiles ∧ (sendLine f line s).panel.current = s.panel.current
      ∧ (sendLine f line s).panel.fill = s.panel.fill ∧ (sendLine f line s).panel.phase = s.panel.phase := by
  simp [sendLine]

@[simp] theorem panelLine_frame (f : PanelFrame) (s : State) :
    (panelLine f s).now = s.now ∧ (panelLine f s).pending = s.pending ∧ (panelLine f s).mon = s.mon
      ∧ (panelLine f s).plan = s.plan ∧ (panelLine f s).pacer = s.pacer ∧ (panelLine f s).stage = s.stage
      ∧ (panelLine f s).ctl = s.ctl ∧ (panelLine f s).cat.length = s.cat.length
      ∧ (panelLine f s).store.slots.length = s.store.slots.length ∧ (panelLine f s).panel.profiles = s.panel.profiles
      ∧ (panelLine f s).panel.current = s.panel.current ∧ (panelLine f s).panel.fill = s.panel.fill
      ∧ (panelLine f s).panel.phase = s.panel.phase ∧ (panelLine f s).overlay.image = s.overlay.image
      ∧ (panelLine f s).overlay.writePtr = s.overlay.writePtr
      ∧ (panelLine f s).overlay.windows.length = s.overlay.windows.length ∧ (panelLine f s).ev.mask = s.ev.mask := by
  simp only [panelLine]
  (repeat' split) <;> simp

/-! ### The control port -/

@[simp] theorem completeStartup_frame (s : State) :
    (completeStartup s).now = s.now ∧ (completeStartup s).pending = s.pending ∧ (completeStartup s).mon = s.mon
      ∧ (completeStartup s).cat = s.cat ∧ (completeStartup s).plan = s.plan ∧ (completeStartup s).pacer = s.pacer
      ∧ (completeStartup s).store = s.store ∧ (completeStartup s).panel = s.panel
      ∧ (completeStartup s).stage = s.stage ∧ (completeStartup s).ev = s.ev
      ∧ (completeStartup s).overlay.writePtr = s.overlay.writePtr
      ∧ (completeStartup s).overlay.windows.length = s.overlay.windows.length := by
  simp only [completeStartup]
  (repeat' split) <;> simp

@[simp] theorem putTxn_frame (x : Txn) (s : State) :
    (putTxn x s).now = s.now ∧ (putTxn x s).pending = s.pending ∧ (putTxn x s).mon = s.mon
      ∧ (putTxn x s).cat = s.cat ∧ (putTxn x s).plan = s.plan ∧ (putTxn x s).pacer = s.pacer
      ∧ (putTxn x s).store = s.store ∧ (putTxn x s).panel = s.panel ∧ (putTxn x s).overlay = s.overlay
      ∧ (putTxn x s).stage = s.stage ∧ (putTxn x s).ev = s.ev ∧ (putTxn x s).ctl.phase = s.ctl.phase := by
  simp [putTxn]

@[simp] theorem beginTxn_frame (s : State) :
    (beginTxn s).now = s.now ∧ (beginTxn s).pending = s.pending ∧ (beginTxn s).mon = s.mon
      ∧ (beginTxn s).cat = s.cat ∧ (beginTxn s).plan = s.plan ∧ (beginTxn s).pacer = s.pacer
      ∧ (beginTxn s).store = s.store ∧ (beginTxn s).panel = s.panel ∧ (beginTxn s).overlay = s.overlay
      ∧ (beginTxn s).stage = s.stage ∧ (beginTxn s).ev = s.ev ∧ (beginTxn s).ctl.phase = s.ctl.phase := by
  simp only [beginTxn]
  (repeat' split) <;> simp

@[simp] theorem findMalformed_frame (fromByte : Nat) (x : Txn) (s : State) :
    (findMalformed fromByte x s).now = s.now ∧ (findMalformed fromByte x s).pending = s.pending
      ∧ (findMalformed fromByte x s).mon = s.mon ∧ (findMalformed fromByte x s).cat = s.cat
      ∧ (findMalformed fromByte x s).plan = s.plan ∧ (findMalformed fromByte x s).pacer = s.pacer
      ∧ (findMalformed fromByte x s).store = s.store ∧ (findMalformed fromByte x s).panel = s.panel
      ∧ (findMalformed fromByte x s).overlay = s.overlay ∧ (findMalformed fromByte x s).stage = s.stage
      ∧ (findMalformed fromByte x s).ev.mask = s.ev.mask ∧ (findMalformed fromByte x s).ctl.phase = s.ctl.phase := by
  simp [findMalformed]

@[simp] theorem completePost_frame (r : Request) (x : Txn) (s : State) :
    (completePost r x s).now = s.now ∧ (completePost r x s).pending = s.pending
      ∧ (completePost r x s).mon = s.mon ∧ (completePost r x s).cat = s.cat ∧ (completePost r x s).plan = s.plan
      ∧ (completePost r x s).pacer = s.pacer ∧ (completePost r x s).store = s.store
      ∧ (completePost r x s).panel = s.panel ∧ (completePost r x s).overlay = s.overlay
      ∧ (completePost r x s).stage = s.stage ∧ (completePost r x s).ev = s.ev := by
  simp only [completePost]
  (repeat' split) <;> simp

@[simp] theorem readPost_frame (code length : Byte) (params : List Byte) (x : Txn) (s : State) :
    (readPost code length params x s).now = s.now ∧ (readPost code length params x s).pending = s.pending
      ∧ (readPost code length params x s).mon = s.mon ∧ (readPost code length params x s).cat = s.cat
      ∧ (readPost code length params x s).plan = s.plan ∧ (readPost code length params x s).pacer = s.pacer
      ∧ (readPost code length params x s).store = s.store ∧ (readPost code length params x s).panel = s.panel
      ∧ (readPost code length params x s).overlay = s.overlay
      ∧ (readPost code length params x s).stage = s.stage
      ∧ (readPost code length params x s).ev.mask = s.ev.mask := by
  simp only [readPost]
  (repeat' split) <;> simp

@[simp] theorem readByte_frame (x : Txn) (s : State) :
    (readByte x s).now = s.now ∧ (readByte x s).pending = s.pending ∧ (readByte x s).mon = s.mon
      ∧ (readByte x s).cat = s.cat ∧ (readByte x s).plan = s.plan ∧ (readByte x s).pacer = s.pacer
      ∧ (readByte x s).store = s.store ∧ (readByte x s).panel = s.panel ∧ (readByte x s).overlay = s.overlay
      ∧ (readByte x s).stage = s.stage ∧ (readByte x s).ev.mask = s.ev.mask := by
  simp only [readByte]
  (repeat' split) <;> simp

@[simp] theorem clockIn_frame (sdi : Bool) (s : State) :
    (clockIn sdi s).now = s.now ∧ (clockIn sdi s).pending = s.pending ∧ (clockIn sdi s).mon = s.mon
      ∧ (clockIn sdi s).cat = s.cat ∧ (clockIn sdi s).plan = s.plan ∧ (clockIn sdi s).pacer = s.pacer
      ∧ (clockIn sdi s).store = s.store ∧ (clockIn sdi s).panel = s.panel ∧ (clockIn sdi s).overlay = s.overlay
      ∧ (clockIn sdi s).stage = s.stage ∧ (clockIn sdi s).ev.mask = s.ev.mask := by
  simp only [clockIn]
  (repeat' split) <;> simp

@[simp] theorem shiftSdo_frame (s : State) :
    (shiftSdo s).now = s.now ∧ (shiftSdo s).pending = s.pending ∧ (shiftSdo s).mon = s.mon ∧ (shiftSdo s).cat = s.cat
      ∧ (shiftSdo s).plan = s.plan ∧ (shiftSdo s).pacer = s.pacer ∧ (shiftSdo s).store = s.store
      ∧ (shiftSdo s).panel = s.panel ∧ (shiftSdo s).overlay = s.overlay ∧ (shiftSdo s).stage = s.stage
      ∧ (shiftSdo s).ev = s.ev := by
  simp only [shiftSdo]
  split <;> simp

/-- Edges of SCK reach nothing but the control port and the PORT_ERROR flag. -/
@[simp] theorem clocks_frame (sdi : List Bool) (s : State) :
    (sdi.foldl sckPeriod s).now = s.now ∧ (sdi.foldl sckPeriod s).pending = s.pending
      ∧ (sdi.foldl sckPeriod s).mon = s.mon ∧ (sdi.foldl sckPeriod s).cat = s.cat
      ∧ (sdi.foldl sckPeriod s).plan = s.plan ∧ (sdi.foldl sckPeriod s).pacer = s.pacer
      ∧ (sdi.foldl sckPeriod s).store = s.store ∧ (sdi.foldl sckPeriod s).panel = s.panel
      ∧ (sdi.foldl sckPeriod s).overlay = s.overlay ∧ (sdi.foldl sckPeriod s).stage = s.stage
      ∧ (sdi.foldl sckPeriod s).ev.mask = s.ev.mask := by
  induction sdi generalizing s with
  | nil => simp
  | cons b bs ih => simpa [sckPeriod] using ih (sckPeriod s b)

@[simp] theorem endTxn_frame (x : Txn) (s : State) :
    (endTxn x s).now = s.now ∧ (endTxn x s).pending = s.pending ∧ (endTxn x s).mon = s.mon
      ∧ (endTxn x s).cat = s.cat ∧ (endTxn x s).plan = s.plan ∧ (endTxn x s).pacer = s.pacer
      ∧ (endTxn x s).store = s.store ∧ (endTxn x s).panel = s.panel ∧ (endTxn x s).overlay = s.overlay
      ∧ (endTxn x s).stage = s.stage ∧ (endTxn x s).ev = s.ev ∧ (endTxn x s).ctl.phase = s.ctl.phase := by
  simp [endTxn]

@[simp] theorem riseOfCsn_frame (s : State) :
    (riseOfCsn s).now = s.now ∧ (riseOfCsn s).pending = s.pending ∧ (riseOfCsn s).mon = s.mon
      ∧ (riseOfCsn s).cat = s.cat ∧ (riseOfCsn s).plan = s.plan ∧ (riseOfCsn s).pacer = s.pacer
      ∧ (riseOfCsn s).store = s.store ∧ (riseOfCsn s).panel = s.panel ∧ (riseOfCsn s).overlay = s.overlay
      ∧ (riseOfCsn s).stage = s.stage ∧ (riseOfCsn s).ev.mask = s.ev.mask
      ∧ (riseOfCsn s).ctl.phase = s.ctl.phase := by
  simp only [riseOfCsn]
  (repeat' split) <;> simp

@[simp] theorem wireEvent_frame (ev : WireEvent) (s : State) :
    (wireEvent ev s).now = s.now ∧ (wireEvent ev s).pending = s.pending ∧ (wireEvent ev s).mon = s.mon
      ∧ (wireEvent ev s).cat = s.cat ∧ (wireEvent ev s).plan = s.plan ∧ (wireEvent ev s).pacer = s.pacer
      ∧ (wireEvent ev s).store = s.store ∧ (wireEvent ev s).panel = s.panel
      ∧ (wireEvent ev s).overlay = s.overlay ∧ (wireEvent ev s).stage = s.stage
      ∧ (wireEvent ev s).ev.mask = s.ev.mask := by
  cases ev <;> simp [wireEvent]

/-! ### Requests of the control port -/

@[simp] theorem bodyIdentify_frame (ps : List Byte) (s : State) :
    (bodyIdentify ps s).st.now = s.now ∧ (bodyIdentify ps s).st.pending = s.pending
      ∧ (bodyIdentify ps s).st.mon = s.mon ∧ (bodyIdentify ps s).st.cat = s.cat
      ∧ (bodyIdentify ps s).st.plan = s.plan ∧ (bodyIdentify ps s).st.pacer = s.pacer
      ∧ (bodyIdentify ps s).st.store = s.store ∧ (bodyIdentify ps s).st.panel = s.panel
      ∧ (bodyIdentify ps s).st.overlay = s.overlay ∧ (bodyIdentify ps s).st.stage = s.stage
      ∧ (bodyIdentify ps s).st.ctl = s.ctl ∧ (bodyIdentify ps s).st.ev = s.ev := by
  simp only [bodyIdentify, refuse, accept]
  (repeat' split) <;> simp

@[simp] theorem resetOverlay_frame (s : State) :
    (resetOverlay s).now = s.now ∧ (resetOverlay s).pending = s.pending ∧ (resetOverlay s).mon = s.mon
      ∧ (resetOverlay s).cat = s.cat ∧ (resetOverlay s).plan = s.plan ∧ (resetOverlay s).pacer = s.pacer
      ∧ (resetOverlay s).store = s.store ∧ (resetOverlay s).panel = s.panel ∧ (resetOverlay s).stage = s.stage
      ∧ (resetOverlay s).ctl = s.ctl ∧ (resetOverlay s).ev = s.ev ∧ (resetOverlay s).overlay.image = s.overlay.image
      ∧ (resetOverlay s).overlay.windows.length = s.overlay.windows.length := by
  simp [resetOverlay]

@[simp] theorem partReset_frame (s : State) :
    (partReset s).now = s.now ∧ (partReset s).pending = s.pending ∧ (partReset s).cat.length = s.cat.length
      ∧ (partReset s).panel.profiles = s.panel.profiles ∧ (partReset s).panel.current = s.panel.current
      ∧ (partReset s).panel.fill = s.panel.fill ∧ (partReset s).overlay.image = s.overlay.image
      ∧ (partReset s).overlay.windows.length = s.overlay.windows.length ∧ (partReset s).ev.mask = s.ev.mask := by
  simp [partReset]

@[simp] theorem bodyResetPart_frame (ps : List Byte) (s : State) :
    (bodyResetPart ps s).st.now = s.now ∧ (bodyResetPart ps s).st.pending = s.pending
      ∧ (bodyResetPart ps s).st.cat.length = s.cat.length ∧ (bodyResetPart ps s).st.panel.profiles = s.panel.profiles
      ∧ (bodyResetPart ps s).st.panel.current = s.panel.current ∧ (bodyResetPart ps s).st.panel.fill = s.panel.fill
      ∧ (bodyResetPart ps s).st.overlay.image = s.overlay.image
      ∧ (bodyResetPart ps s).st.overlay.windows.length = s.overlay.windows.length
      ∧ (bodyResetPart ps s).st.ev.mask = s.ev.mask := by
  simp only [bodyResetPart, refuse, accept]
  (repeat' split) <;> simp

@[simp] theorem bodyEventMask_frame (ps : List Byte) (s : State) :
    (bodyEventMask ps s).st.now = s.now ∧ (bodyEventMask ps s).st.pending = s.pending
      ∧ (bodyEventMask ps s).st.mon = s.mon ∧ (bodyEventMask ps s).st.cat = s.cat
      ∧ (bodyEventMask ps s).st.plan = s.plan ∧ (bodyEventMask ps s).st.pacer = s.pacer
      ∧ (bodyEventMask ps s).st.store = s.store ∧ (bodyEventMask ps s).st.panel = s.panel
      ∧ (bodyEventMask ps s).st.overlay = s.overlay ∧ (bodyEventMask ps s).st.stage = s.stage
      ∧ (bodyEventMask ps s).st.ctl = s.ctl := by
  simp only [bodyEventMask, refuse, accept]
  (repeat' split) <;> simp

@[simp] theorem bodyEventRead_frame (ps : List Byte) (s : State) :
    (bodyEventRead ps s).st.now = s.now ∧ (bodyEventRead ps s).st.pending = s.pending
      ∧ (bodyEventRead ps s).st.mon = s.mon ∧ (bodyEventRead ps s).st.cat = s.cat
      ∧ (bodyEventRead ps s).st.plan = s.plan ∧ (bodyEventRead ps s).st.pacer = s.pacer
      ∧ (bodyEventRead ps s).st.store = s.store ∧ (bodyEventRead ps s).st.panel = s.panel
      ∧ (bodyEventRead ps s).st.overlay = s.overlay ∧ (bodyEventRead ps s).st.stage = s.stage
      ∧ (bodyEventRead ps s).st.ctl = s.ctl ∧ (bodyEventRead ps s).st.ev.mask = s.ev.mask := by
  simp only [bodyEventRead, refuse, accept]
  (repeat' split) <;> simp

/-! ### Requests of the pacer -/

@[simp] theorem startOn_frame (profile : Nat) (s : State) :
    (startOn profile s).now = s.now ∧ (startOn profile s).pending = s.pending ∧ (startOn profile s).mon = s.mon
      ∧ (startOn profile s).store = s.store ∧ (startOn profile s).overlay = s.overlay
      ∧ (startOn profile s).stage = s.stage ∧ (startOn profile s).ctl = s.ctl
      ∧ (startOn profile s).cat.length = s.cat.length ∧ (startOn profile s).pacer.last = s.pacer.last
      ∧ (startOn profile s).pacer.pending = s.pacer.pending ∧ (startOn profile s).panel.profiles = s.panel.profiles
      ∧ (startOn profile s).panel.fill = s.panel.fill ∧ (startOn profile s).ev.mask = s.ev.mask := by
  simp only [startOn]
  (repeat' split) <;> simp

@[simp] theorem bodyStart_frame (ps : List Byte) (s : State) :
    (bodyStart ps s).st.now = s.now ∧ (bodyStart ps s).st.pending = s.pending ∧ (bodyStart ps s).st.mon = s.mon
      ∧ (bodyStart ps s).st.store = s.store ∧ (bodyStart ps s).st.overlay = s.overlay
      ∧ (bodyStart ps s).st.stage = s.stage ∧ (bodyStart ps s).st.ctl = s.ctl
      ∧ (bodyStart ps s).st.cat.length = s.cat.length ∧ (bodyStart ps s).st.pacer.last = s.pacer.last
      ∧ (bodyStart ps s).st.pacer.pending = s.pacer.pending ∧ (bodyStart ps s).st.panel.profiles = s.panel.profiles
      ∧ (bodyStart ps s).st.panel.fill = s.panel.fill ∧ (bodyStart ps s).st.ev.mask = s.ev.mask := by
  simp only [bodyStart, refuse, accept]
  (repeat' split) <;> simp

@[simp] theorem goStandby_frame (s : State) :
    (goStandby s).now = s.now ∧ (goStandby s).pending = s.pending ∧ (goStandby s).mon = s.mon
      ∧ (goStandby s).overlay = s.overlay ∧ (goStandby s).stage = s.stage ∧ (goStandby s).ctl = s.ctl
      ∧ (goStandby s).cat.length = s.cat.length ∧ (goStandby s).pacer.last = s.pacer.last
      ∧ (goStandby s).store.slots.length = s.store.slots.length ∧ (goStandby s).panel.profiles = s.panel.profiles
      ∧ (goStandby s).panel.current = s.panel.current ∧ (goStandby s).panel.fill = s.panel.fill
      ∧ (goStandby s).ev.mask = s.ev.mask := by
  simp only [goStandby]
  (repeat' split) <;> simp

@[simp] theorem bodyStandby_frame (ps : List Byte) (s : State) :
    (bodyStandby ps s).st.now = s.now ∧ (bodyStandby ps s).st.pending = s.pending ∧ (bodyStandby ps s).st.mon = s.mon
      ∧ (bodyStandby ps s).st.overlay = s.overlay ∧ (bodyStandby ps s).st.stage = s.stage
      ∧ (bodyStandby ps s).st.ctl = s.ctl ∧ (bodyStandby ps s).st.cat.length = s.cat.length
      ∧ (bodyStandby ps s).st.pacer.last = s.pacer.last
      ∧ (bodyStandby ps s).st.store.slots.length = s.store.slots.length
      ∧ (bodyStandby ps s).st.panel.profiles = s.panel.profiles
      ∧ (bodyStandby ps s).st.panel.current = s.panel.current ∧ (bodyStandby ps s).st.panel.fill = s.panel.fill
      ∧ (bodyStandby ps s).st.ev.mask = s.ev.mask := by
  simp only [bodyStandby, refuse, accept]
  (repeat' split) <;> simp

@[simp] theorem wakeUp_frame (s : State) :
    (wakeUp s).now = s.now ∧ (wakeUp s).pending = s.pending ∧ (wakeUp s).mon = s.mon ∧ (wakeUp s).store = s.store
      ∧ (wakeUp s).overlay = s.overlay ∧ (wakeUp s).stage = s.stage ∧ (wakeUp s).ctl = s.ctl
      ∧ (wakeUp s).cat.length = s.cat.length ∧ (wakeUp s).pacer.last = s.pacer.last
      ∧ (wakeUp s).pacer.pending = s.pacer.pending ∧ (wakeUp s).panel.profiles = s.panel.profiles
      ∧ (wakeUp s).panel.fill = s.panel.fill ∧ (wakeUp s).ev.mask = s.ev.mask := by
  simp [wakeUp]

@[simp] theorem bodyWake_frame (ps : List Byte) (s : State) :
    (bodyWake ps s).st.now = s.now ∧ (bodyWake ps s).st.pending = s.pending ∧ (bodyWake ps s).st.mon = s.mon
      ∧ (bodyWake ps s).st.store = s.store ∧ (bodyWake ps s).st.overlay = s.overlay
      ∧ (bodyWake ps s).st.stage = s.stage ∧ (bodyWake ps s).st.ctl = s.ctl
      ∧ (bodyWake ps s).st.cat.length = s.cat.length ∧ (bodyWake ps s).st.pacer.last = s.pacer.last
      ∧ (bodyWake ps s).st.pacer.pending = s.pacer.pending ∧ (bodyWake ps s).st.panel.profiles = s.panel.profiles
      ∧ (bodyWake ps s).st.panel.fill = s.panel.fill ∧ (bodyWake ps s).st.ev.mask = s.ev.mask := by
  simp only [bodyWake, refuse, accept]
  (repeat' split) <;> simp

@[simp] theorem setTimers_frame (hold rest : Nat) (wake : Bool) (s : State) :
    (setTimers hold rest wake s).now = s.now ∧ (setTimers hold rest wake s).pending = s.pending
      ∧ (setTimers hold rest wake s).mon = s.mon ∧ (setTimers hold rest wake s).cat = s.cat
      ∧ (setTimers hold rest wake s).plan = s.plan ∧ (setTimers hold rest wake s).store = s.store
      ∧ (setTimers hold rest wake s).panel = s.panel ∧ (setTimers hold rest wake s).overlay = s.overlay
      ∧ (setTimers hold rest wake s).stage = s.stage ∧ (setTimers hold rest wake s).ctl = s.ctl
      ∧ (setTimers hold rest wake s).ev = s.ev ∧ (setTimers hold rest wake s).pacer.state = s.pacer.state
      ∧ (setTimers hold rest wake s).pacer.last = s.pacer.last
      ∧ (setTimers hold rest wake s).pacer.tracking = s.pacer.tracking
      ∧ (setTimers hold rest wake s).pacer.pending = s.pacer.pending := by
  simp [setTimers]

@[simp] theorem bodySetTimers_frame (ps : List Byte) (s : State) :
    (bodySetTimers ps s).st.now = s.now ∧ (bodySetTimers ps s).st.pending = s.pending
      ∧ (bodySetTimers ps s).st.mon = s.mon ∧ (bodySetTimers ps s).st.cat = s.cat
      ∧ (bodySetTimers ps s).st.plan = s.plan ∧ (bodySetTimers ps s).st.store = s.store
      ∧ (bodySetTimers ps s).st.panel = s.panel ∧ (bodySetTimers ps s).st.overlay = s.overlay
      ∧ (bodySetTimers ps s).st.stage = s.stage ∧ (bodySetTimers ps s).st.ctl = s.ctl
      ∧ (bodySetTimers ps s).st.ev = s.ev ∧ (bodySetTimers ps s).st.pacer.state = s.pacer.state
      ∧ (bodySetTimers ps s).st.pacer.last = s.pacer.last ∧ (bodySetTimers ps s).st.pacer.tracking = s.pacer.tracking
      ∧ (bodySetTimers ps s).st.pacer.pending = s.pacer.pending := by
  simp only [bodySetTimers, refuse, accept]
  (repeat' split) <;> simp

@[simp] theorem bodyPacingRead_frame (ps : List Byte) (s : State) :
    (bodyPacingRead ps s).st.now = s.now ∧ (bodyPacingRead ps s).st.pending = s.pending
      ∧ (bodyPacingRead ps s).st.mon = s.mon ∧ (bodyPacingRead ps s).st.cat = s.cat
      ∧ (bodyPacingRead ps s).st.plan = s.plan ∧ (bodyPacingRead ps s).st.pacer = s.pacer
      ∧ (bodyPacingRead ps s).st.store = s.store ∧ (bodyPacingRead ps s).st.panel = s.panel
      ∧ (bodyPacingRead ps s).st.overlay = s.overlay ∧ (bodyPacingRead ps s).st.stage = s.stage
      ∧ (bodyPacingRead ps s).st.ctl = s.ctl ∧ (bodyPacingRead ps s).st.ev = s.ev := by
  simp only [bodyPacingRead, refuse, accept]
  (repeat' split) <;> simp

@[simp] theorem bodyObserve_frame (ps : List Byte) (s : State) :
    (bodyObserve ps s).st.now = s.now ∧ (bodyObserve ps s).st.pending = s.pending ∧ (bodyObserve ps s).st.cat = s.cat
      ∧ (bodyObserve ps s).st.plan = s.plan ∧ (bodyObserve ps s).st.pacer = s.pacer
      ∧ (bodyObserve ps s).st.store = s.store ∧ (bodyObserve ps s).st.panel = s.panel
      ∧ (bodyObserve ps s).st.overlay = s.overlay ∧ (bodyObserve ps s).st.stage = s.stage
      ∧ (bodyObserve ps s).st.ctl = s.ctl ∧ (bodyObserve ps s).st.ev = s.ev
      ∧ (bodyObserve ps s).st.mon.state = s.mon.state ∧ (bodyObserve ps s).st.mon.obs = s.mon.obs := by
  simp only [bodyObserve, refuse, accept]
  (repeat' split) <;> simp

/-! ### Requests of the catalogue -/

@[simp] theorem stageEdit_frame (e : Edit) (data : List Byte) (ps : List Byte) (s : State) :
    (stageEdit e data ps s).st.now = s.now ∧ (stageEdit e data ps s).st.pending = s.pending
      ∧ (stageEdit e data ps s).st.mon = s.mon ∧ (stageEdit e data ps s).st.ctl = s.ctl
      ∧ (stageEdit e data ps s).st.cat.length = s.cat.length ∧ (stageEdit e data ps s).st.pacer.last = s.pacer.last
      ∧ (stageEdit e data ps s).st.store.slots.length = s.store.slots.length
      ∧ (stageEdit e data ps s).st.panel.profiles = s.panel.profiles
      ∧ (stageEdit e data ps s).st.overlay.image = s.overlay.image
      ∧ (stageEdit e data ps s).st.overlay.writePtr = s.overlay.writePtr
      ∧ (stageEdit e data ps s).st.overlay.windows.length = s.overlay.windows.length
      ∧ (stageEdit e data ps s).st.ev.mask = s.ev.mask
      ∧ (stageEdit e data ps s).st.stage.groupOpen = s.stage.groupOpen := by
  simp only [stageEdit, refuse]
  (repeat' split) <;> simp

@[simp] theorem bodyCatStore_frame (ps : List Byte) (s : State) :
    (bodyCatStore ps s).st.now = s.now ∧ (bodyCatStore ps s).st.pending = s.pending
      ∧ (bodyCatStore ps s).st.mon = s.mon ∧ (bodyCatStore ps s).st.ctl = s.ctl
      ∧ (bodyCatStore ps s).st.cat.length = s.cat.length ∧ (bodyCatStore ps s).st.pacer.last = s.pacer.last
      ∧ (bodyCatStore ps s).st.store.slots.length = s.store.slots.length
      ∧ (bodyCatStore ps s).st.panel.profiles = s.panel.profiles
      ∧ (bodyCatStore ps s).st.overlay.image = s.overlay.image
      ∧ (bodyCatStore ps s).st.overlay.writePtr = s.overlay.writePtr
      ∧ (bodyCatStore ps s).st.overlay.windows.length = s.overlay.windows.length
      ∧ (bodyCatStore ps s).st.ev.mask = s.ev.mask ∧ (bodyCatStore ps s).st.stage.groupOpen = s.stage.groupOpen := by
  simp only [bodyCatStore, refuse]
  (repeat' split) <;> simp

@[simp] theorem bodyCatRetire_frame (ps : List Byte) (s : State) :
    (bodyCatRetire ps s).st.now = s.now ∧ (bodyCatRetire ps s).st.pending = s.pending
      ∧ (bodyCatRetire ps s).st.mon = s.mon ∧ (bodyCatRetire ps s).st.ctl = s.ctl
      ∧ (bodyCatRetire ps s).st.cat.length = s.cat.length ∧ (bodyCatRetire ps s).st.pacer.last = s.pacer.last
      ∧ (bodyCatRetire ps s).st.store.slots.length = s.store.slots.length
      ∧ (bodyCatRetire ps s).st.panel.profiles = s.panel.profiles
      ∧ (bodyCatRetire ps s).st.overlay.image = s.overlay.image
      ∧ (bodyCatRetire ps s).st.overlay.writePtr = s.overlay.writePtr
      ∧ (bodyCatRetire ps s).st.overlay.windows.length = s.overlay.windows.length
      ∧ (bodyCatRetire ps s).st.ev.mask = s.ev.mask ∧ (bodyCatRetire ps s).st.stage.groupOpen = s.stage.groupOpen := by
  simp only [bodyCatRetire, refuse]
  (repeat' split) <;> simp

@[simp] theorem bodyCatRead_frame (ps : List Byte) (s : State) :
    (bodyCatRead ps s).st.now = s.now ∧ (bodyCatRead ps s).st.pending = s.pending ∧ (bodyCatRead ps s).st.mon = s.mon
      ∧ (bodyCatRead ps s).st.cat = s.cat ∧ (bodyCatRead ps s).st.plan = s.plan
      ∧ (bodyCatRead ps s).st.pacer = s.pacer ∧ (bodyCatRead ps s).st.store = s.store
      ∧ (bodyCatRead ps s).st.panel = s.panel ∧ (bodyCatRead ps s).st.overlay = s.overlay
      ∧ (bodyCatRead ps s).st.stage = s.stage ∧ (bodyCatRead ps s).st.ctl = s.ctl ∧ (bodyCatRead ps s).st.ev = s.ev := by
  simp only [bodyCatRead, refuse, accept]
  (repeat' split) <;> simp

@[simp] theorem clearStats_frame (slot : Nat) (s : State) :
    (clearStats slot s).now = s.now ∧ (clearStats slot s).pending = s.pending ∧ (clearStats slot s).mon = s.mon
      ∧ (clearStats slot s).plan = s.plan ∧ (clearStats slot s).pacer = s.pacer ∧ (clearStats slot s).store = s.store
      ∧ (clearStats slot s).panel = s.panel ∧ (clearStats slot s).overlay = s.overlay
      ∧ (clearStats slot s).stage = s.stage ∧ (clearStats slot s).ctl = s.ctl ∧ (clearStats slot s).ev = s.ev
      ∧ (clearStats slot s).cat.length = s.cat.length := by
  simp [clearStats]

@[simp] theorem bodyCatStats_frame (ps : List Byte) (s : State) :
    (bodyCatStats ps s).st.now = s.now ∧ (bodyCatStats ps s).st.pending = s.pending
      ∧ (bodyCatStats ps s).st.mon = s.mon ∧ (bodyCatStats ps s).st.plan = s.plan
      ∧ (bodyCatStats ps s).st.pacer = s.pacer ∧ (bodyCatStats ps s).st.store = s.store
      ∧ (bodyCatStats ps s).st.panel = s.panel ∧ (bodyCatStats ps s).st.overlay = s.overlay
      ∧ (bodyCatStats ps s).st.stage = s.stage ∧ (bodyCatStats ps s).st.ctl = s.ctl
      ∧ (bodyCatStats ps s).st.ev = s.ev ∧ (bodyCatStats ps s).st.cat.length = s.cat.length := by
  simp only [bodyCatStats, refuse, accept]
  (repeat' split) <;> simp

@[simp] theorem bodyCatLock_frame (ps : List Byte) (s : State) :
    (bodyCatLock ps s).st.now = s.now ∧ (bodyCatLock ps s).st.pending = s.pending ∧ (bodyCatLock ps s).st.mon = s.mon
      ∧ (bodyCatLock ps s).st.plan = s.plan ∧ (bodyCatLock ps s).st.pacer = s.pacer
      ∧ (bodyCatLock ps s).st.store = s.store ∧ (bodyCatLock ps s).st.panel = s.panel
      ∧ (bodyCatLock ps s).st.overlay = s.overlay ∧ (bodyCatLock ps s).st.stage = s.stage
      ∧ (bodyCatLock ps s).st.ctl = s.ctl ∧ (bodyCatLock ps s).st.ev = s.ev
      ∧ (bodyCatLock ps s).st.cat.length = s.cat.length := by
  simp only [bodyCatLock, refuse, accept]
  (repeat' split) <;> simp

@[simp] theorem bodyCatList_frame (ps : List Byte) (s : State) :
    (bodyCatList ps s).st.now = s.now ∧ (bodyCatList ps s).st.pending = s.pending ∧ (bodyCatList ps s).st.mon = s.mon
      ∧ (bodyCatList ps s).st.cat = s.cat ∧ (bodyCatList ps s).st.plan = s.plan
      ∧ (bodyCatList ps s).st.pacer = s.pacer ∧ (bodyCatList ps s).st.store = s.store
      ∧ (bodyCatList ps s).st.panel = s.panel ∧ (bodyCatList ps s).st.overlay = s.overlay
      ∧ (bodyCatList ps s).st.stage = s.stage ∧ (bodyCatList ps s).st.ctl = s.ctl ∧ (bodyCatList ps s).st.ev = s.ev := by
  simp only [bodyCatList, refuse, accept]
  (repeat' split) <;> simp

/-! ### Requests of the windows -/

@[simp] theorem bodyWinDefine_frame (ps : List Byte) (s : State) :
    (bodyWinDefine ps s).st.now = s.now ∧ (bodyWinDefine ps s).st.pending = s.pending
      ∧ (bodyWinDefine ps s).st.mon = s.mon ∧ (bodyWinDefine ps s).st.ctl = s.ctl
      ∧ (bodyWinDefine ps s).st.cat.length = s.cat.length ∧ (bodyWinDefine ps s).st.pacer.last = s.pacer.last
      ∧ (bodyWinDefine ps s).st.store.slots.length = s.store.slots.length
      ∧ (bodyWinDefine ps s).st.panel.profiles = s.panel.profiles
      ∧ (bodyWinDefine ps s).st.overlay.image = s.overlay.image
      ∧ (bodyWinDefine ps s).st.overlay.writePtr = s.overlay.writePtr
      ∧ (bodyWinDefine ps s).st.overlay.windows.length = s.overlay.windows.length
      ∧ (bodyWinDefine ps s).st.ev.mask = s.ev.mask ∧ (bodyWinDefine ps s).st.stage.groupOpen = s.stage.groupOpen := by
  simp only [bodyWinDefine, refuse]
  (repeat' split) <;> simp

@[simp] theorem bodyWinPlace_frame (ps : List Byte) (s : State) :
    (bodyWinPlace ps s).st.now = s.now ∧ (bodyWinPlace ps s).st.pending = s.pending
      ∧ (bodyWinPlace ps s).st.mon = s.mon ∧ (bodyWinPlace ps s).st.ctl = s.ctl
      ∧ (bodyWinPlace ps s).st.cat.length = s.cat.length ∧ (bodyWinPlace ps s).st.pacer.last = s.pacer.last
      ∧ (bodyWinPlace ps s).st.store.slots.length = s.store.slots.length
      ∧ (bodyWinPlace ps s).st.panel.profiles = s.panel.profiles
      ∧ (bodyWinPlace ps s).st.overlay.image = s.overlay.image
      ∧ (bodyWinPlace ps s).st.overlay.writePtr = s.overlay.writePtr
      ∧ (bodyWinPlace ps s).st.overlay.windows.length = s.overlay.windows.length
      ∧ (bodyWinPlace ps s).st.ev.mask = s.ev.mask ∧ (bodyWinPlace ps s).st.stage.groupOpen = s.stage.groupOpen := by
  simp only [bodyWinPlace, refuse]
  (repeat' split) <;> simp

@[simp] theorem bodyWinShow_frame (ps : List Byte) (s : State) :
    (bodyWinShow ps s).st.now = s.now ∧ (bodyWinShow ps s).st.pending = s.pending ∧ (bodyWinShow ps s).st.mon = s.mon
      ∧ (bodyWinShow ps s).st.ctl = s.ctl ∧ (bodyWinShow ps s).st.cat.length = s.cat.length
      ∧ (bodyWinShow ps s).st.pacer.last = s.pacer.last
      ∧ (bodyWinShow ps s).st.store.slots.length = s.store.slots.length
      ∧ (bodyWinShow ps s).st.panel.profiles = s.panel.profiles
      ∧ (bodyWinShow ps s).st.overlay.image = s.overlay.image
      ∧ (bodyWinShow ps s).st.overlay.writePtr = s.overlay.writePtr
      ∧ (bodyWinShow ps s).st.overlay.windows.length = s.overlay.windows.length
      ∧ (bodyWinShow ps s).st.ev.mask = s.ev.mask ∧ (bodyWinShow ps s).st.stage.groupOpen = s.stage.groupOpen := by
  simp only [bodyWinShow, refuse]
  (repeat' split) <;> simp

@[simp] theorem bodyWinRetire_frame (ps : List Byte) (s : State) :
    (bodyWinRetire ps s).st.now = s.now ∧ (bodyWinRetire ps s).st.pending = s.pending
      ∧ (bodyWinRetire ps s).st.mon = s.mon ∧ (bodyWinRetire ps s).st.ctl = s.ctl
      ∧ (bodyWinRetire ps s).st.cat.length = s.cat.length ∧ (bodyWinRetire ps s).st.pacer.last = s.pacer.last
      ∧ (bodyWinRetire ps s).st.store.slots.length = s.store.slots.length
      ∧ (bodyWinRetire ps s).st.panel.profiles = s.panel.profiles
      ∧ (bodyWinRetire ps s).st.overlay.image = s.overlay.image
      ∧ (bodyWinRetire ps s).st.overlay.writePtr = s.overlay.writePtr
      ∧ (bodyWinRetire ps s).st.overlay.windows.length = s.overlay.windows.length
      ∧ (bodyWinRetire ps s).st.ev.mask = s.ev.mask ∧ (bodyWinRetire ps s).st.stage.groupOpen = s.stage.groupOpen := by
  simp only [bodyWinRetire, refuse]
  (repeat' split) <;> simp

@[simp] theorem writeImage_frame (start : Nat) (data : List Byte) (s : State) :
    (writeImage start data s).st.now = s.now ∧ (writeImage start data s).st.pending = s.pending
      ∧ (writeImage start data s).st.mon = s.mon ∧ (writeImage start data s).st.cat = s.cat
      ∧ (writeImage start data s).st.plan = s.plan ∧ (writeImage start data s).st.pacer = s.pacer
      ∧ (writeImage start data s).st.store = s.store ∧ (writeImage start data s).st.panel = s.panel
      ∧ (writeImage start data s).st.stage = s.stage ∧ (writeImage start data s).st.ctl = s.ctl
      ∧ (writeImage start data s).st.ev = s.ev
      ∧ (writeImage start data s).st.overlay.windows.length = s.overlay.windows.length := by
  simp [writeImage, accept]

@[simp] theorem bodyImgWrite_frame (ps : List Byte) (s : State) :
    (bodyImgWrite ps s).st.now = s.now ∧ (bodyImgWrite ps s).st.pending = s.pending
      ∧ (bodyImgWrite ps s).st.mon = s.mon ∧ (bodyImgWrite ps s).st.cat = s.cat
      ∧ (bodyImgWrite ps s).st.plan = s.plan ∧ (bodyImgWrite ps s).st.pacer = s.pacer
      ∧ (bodyImgWrite ps s).st.store = s.store ∧ (bodyImgWrite ps s).st.panel = s.panel
      ∧ (bodyImgWrite ps s).st.stage = s.stage ∧ (bodyImgWrite ps s).st.ctl = s.ctl
      ∧ (bodyImgWrite ps s).st.ev = s.ev ∧ (bodyImgWrite ps s).st.overlay.windows.length = s.overlay.windows.length := by
  simp only [bodyImgWrite, refuse]
  (repeat' split) <;> simp

@[simp] theorem bodyImgRead_frame (ps : List Byte) (s : State) :
    (bodyImgRead ps s).st.now = s.now ∧ (bodyImgRead ps s).st.pending = s.pending ∧ (bodyImgRead ps s).st.mon = s.mon
      ∧ (bodyImgRead ps s).st.cat = s.cat ∧ (bodyImgRead ps s).st.plan = s.plan
      ∧ (bodyImgRead ps s).st.pacer = s.pacer ∧ (bodyImgRead ps s).st.store = s.store
      ∧ (bodyImgRead ps s).st.panel = s.panel ∧ (bodyImgRead ps s).st.overlay = s.overlay
      ∧ (bodyImgRead ps s).st.stage = s.stage ∧ (bodyImgRead ps s).st.ctl = s.ctl ∧ (bodyImgRead ps s).st.ev = s.ev := by
  simp only [bodyImgRead, refuse, accept]
  (repeat' split) <;> simp

/-! ### Requests of the panel port and the stage -/

@[simp] theorem setProfile_frame (index : Nat) (p : Profile) (s : State) :
    (setProfile index p s).now = s.now ∧ (setProfile index p s).pending = s.pending
      ∧ (setProfile index p s).mon = s.mon ∧ (setProfile index p s).cat = s.cat
      ∧ (setProfile index p s).plan = s.plan ∧ (setProfile index p s).pacer = s.pacer
      ∧ (setProfile index p s).store = s.store ∧ (setProfile index p s).overlay = s.overlay
      ∧ (setProfile index p s).stage = s.stage ∧ (setProfile index p s).ctl = s.ctl
      ∧ (setProfile index p s).ev = s.ev ∧ (setProfile index p s).panel.profiles.length = s.panel.profiles.length
      ∧ (setProfile index p s).panel.current = s.panel.current ∧ (setProfile index p s).panel.fill = s.panel.fill
      ∧ (setProfile index p s).panel.phase = s.panel.phase := by
  simp [setProfile]

@[simp] theorem bodyProfileSet_frame (ps : List Byte) (s : State) :
    (bodyProfileSet ps s).st.now = s.now ∧ (bodyProfileSet ps s).st.pending = s.pending
      ∧ (bodyProfileSet ps s).st.mon = s.mon ∧ (bodyProfileSet ps s).st.cat = s.cat
      ∧ (bodyProfileSet ps s).st.plan = s.plan ∧ (bodyProfileSet ps s).st.pacer = s.pacer
      ∧ (bodyProfileSet ps s).st.store = s.store ∧ (bodyProfileSet ps s).st.overlay = s.overlay
      ∧ (bodyProfileSet ps s).st.stage = s.stage ∧ (bodyProfileSet ps s).st.ctl = s.ctl
      ∧ (bodyProfileSet ps s).st.ev = s.ev ∧ (bodyProfileSet ps s).st.panel.profiles.length = s.panel.profiles.length
      ∧ (bodyProfileSet ps s).st.panel.current = s.panel.current ∧ (bodyProfileSet ps s).st.panel.fill = s.panel.fill
      ∧ (bodyProfileSet ps s).st.panel.phase = s.panel.phase := by
  simp only [bodyProfileSet, refuse, accept]
  (repeat' split) <;> simp

@[simp] theorem bodyProfileRead_frame (ps : List Byte) (s : State) :
    (bodyProfileRead ps s).st.now = s.now ∧ (bodyProfileRead ps s).st.pending = s.pending
      ∧ (bodyProfileRead ps s).st.mon = s.mon ∧ (bodyProfileRead ps s).st.cat = s.cat
      ∧ (bodyProfileRead ps s).st.plan = s.plan ∧ (bodyProfileRead ps s).st.pacer = s.pacer
      ∧ (bodyProfileRead ps s).st.store = s.store ∧ (bodyProfileRead ps s).st.panel = s.panel
      ∧ (bodyProfileRead ps s).st.overlay = s.overlay ∧ (bodyProfileRead ps s).st.stage = s.stage
      ∧ (bodyProfileRead ps s).st.ctl = s.ctl ∧ (bodyProfileRead ps s).st.ev = s.ev := by
  simp only [bodyProfileRead, refuse, accept]
  (repeat' split) <;> simp

@[simp] theorem bodySetFill_frame (ps : List Byte) (s : State) :
    (bodySetFill ps s).st.now = s.now ∧ (bodySetFill ps s).st.pending = s.pending ∧ (bodySetFill ps s).st.mon = s.mon
      ∧ (bodySetFill ps s).st.ctl = s.ctl ∧ (bodySetFill ps s).st.cat.length = s.cat.length
      ∧ (bodySetFill ps s).st.pacer.last = s.pacer.last
      ∧ (bodySetFill ps s).st.store.slots.length = s.store.slots.length
      ∧ (bodySetFill ps s).st.panel.profiles = s.panel.profiles
      ∧ (bodySetFill ps s).st.overlay.image = s.overlay.image
      ∧ (bodySetFill ps s).st.overlay.writePtr = s.overlay.writePtr
      ∧ (bodySetFill ps s).st.overlay.windows.length = s.overlay.windows.length
      ∧ (bodySetFill ps s).st.ev.mask = s.ev.mask ∧ (bodySetFill ps s).st.stage.groupOpen = s.stage.groupOpen := by
  simp only [bodySetFill, refuse]
  (repeat' split) <;> simp

@[simp] theorem bodyGroupOpen_frame (ps : List Byte) (s : State) :
    (bodyGroupOpen ps s).st.now = s.now ∧ (bodyGroupOpen ps s).st.pending = s.pending
      ∧ (bodyGroupOpen ps s).st.mon = s.mon ∧ (bodyGroupOpen ps s).st.cat = s.cat
      ∧ (bodyGroupOpen ps s).st.plan = s.plan ∧ (bodyGroupOpen ps s).st.pacer = s.pacer
      ∧ (bodyGroupOpen ps s).st.store = s.store ∧ (bodyGroupOpen ps s).st.panel = s.panel
      ∧ (bodyGroupOpen ps s).st.overlay = s.overlay ∧ (bodyGroupOpen ps s).st.ctl = s.ctl
      ∧ (bodyGroupOpen ps s).st.ev = s.ev := by
  simp only [bodyGroupOpen, refuse, accept]
  (repeat' split) <;> simp

@[simp] theorem closeGroup_frame (s : State) :
    (closeGroup s).1.now = s.now ∧ (closeGroup s).1.pending = s.pending ∧ (closeGroup s).1.mon = s.mon
      ∧ (closeGroup s).1.ctl = s.ctl ∧ (closeGroup s).1.cat.length = s.cat.length
      ∧ (closeGroup s).1.pacer.last = s.pacer.last ∧ (closeGroup s).1.store.slots.length = s.store.slots.length
      ∧ (closeGroup s).1.panel.profiles = s.panel.profiles ∧ (closeGroup s).1.overlay.image = s.overlay.image
      ∧ (closeGroup s).1.overlay.writePtr = s.overlay.writePtr
      ∧ (closeGroup s).1.overlay.windows.length = s.overlay.windows.length ∧ (closeGroup s).1.ev.mask = s.ev.mask := by
  simp only [closeGroup]
  (repeat' split) <;> simp

@[simp] theorem bodyGroupClose_frame (ps : List Byte) (s : State) :
    (bodyGroupClose ps s).st.now = s.now ∧ (bodyGroupClose ps s).st.pending = s.pending
      ∧ (bodyGroupClose ps s).st.mon = s.mon ∧ (bodyGroupClose ps s).st.ctl = s.ctl
      ∧ (bodyGroupClose ps s).st.cat.length = s.cat.length ∧ (bodyGroupClose ps s).st.pacer.last = s.pacer.last
      ∧ (bodyGroupClose ps s).st.store.slots.length = s.store.slots.length
      ∧ (bodyGroupClose ps s).st.panel.profiles = s.panel.profiles
      ∧ (bodyGroupClose ps s).st.overlay.image = s.overlay.image
      ∧ (bodyGroupClose ps s).st.overlay.writePtr = s.overlay.writePtr
      ∧ (bodyGroupClose ps s).st.overlay.windows.length = s.overlay.windows.length
      ∧ (bodyGroupClose ps s).st.ev.mask = s.ev.mask := by
  simp only [bodyGroupClose, refuse, accept]
  (repeat' split) <;> simp

end Sys2Proof.Machine
end

