-- ==== Sys2Proof/Laws/Image.lean ====
section
/-! SUPPORT. Image memory: every write keeps its one form, and a read gives the byte written last at its address. -/

namespace Sys2Proof.Machine

@[simp] theorem imageRead_nil (addr : Nat) : imageRead addr [] = 0#8 := rfl

/-- The one form without its head. -/
theorem imageWf_tail {c : Host.Cell} {m : List Host.Cell} (h : imageWf (c :: m) = true) : imageWf m = true := by
  obtain ⟨a, b⟩ := c
  cases m with
  | nil => rfl
  | cons d m =>
    obtain ⟨a', b'⟩ := d
    simp only [imageWf, Bool.and_eq_true] at h
    exact h.2

/-- The head's byte does not read 0. -/
theorem imageWf_head {a : Nat} {b : Byte} {m : List Host.Cell} (h : imageWf ((a, b) :: m) = true) : b ≠ 0#8 := by
  cases m with
  | nil =>
    simp only [imageWf, Bool.and_eq_true, bne_iff_ne] at h
    exact h.2
  | cons d m =>
    obtain ⟨a', b'⟩ := d
    simp only [imageWf, Bool.and_eq_true] at h
    simpa using h.1.2

/-- The head's address is below the end of memory, and below every address after it. -/
theorem imageWf_below {a : Nat} {b : Byte} {m : List Host.Cell} (h : imageWf ((a, b) :: m) = true) :
    a < Config.imageBytes ∧ ∀ c ∈ m, a < c.1 := by
  induction m generalizing a b with
  | nil => simp_all [imageWf]
  | cons d m ih =>
    obtain ⟨a', b'⟩ := d
    simp only [imageWf, Bool.and_eq_true, decide_eq_true_eq] at h
    obtain ⟨⟨hlt, -⟩, hw⟩ := h
    obtain ⟨hb, hm⟩ := ih hw
    refine ⟨by omega, fun c hc => ?_⟩
    rcases List.mem_cons.mp hc with rfl | hc
    · exact hlt
    · exact Nat.lt_trans hlt (hm c hc)

/-- A cell put before a memory in its one form. -/
theorem imageWf_cons {a : Nat} {b : Byte} {m : List Host.Cell} (ha : a < Config.imageBytes) (hb : b ≠ 0#8)
    (hm : ∀ c ∈ m, a < c.1) (hw : imageWf m = true) : imageWf ((a, b) :: m) = true := by
  cases m with
  | nil => simp [imageWf, ha, hb]
  | cons d m =>
    obtain ⟨a', b'⟩ := d
    have := hm (a', b') (by simp)
    simp_all [imageWf]

/-- An address below every listed one reads 0. -/
theorem imageRead_below {addr : Nat} {m : List Host.Cell} (h : ∀ c ∈ m, addr < c.1) : imageRead addr m = 0#8 := by
  induction m with
  | nil => rfl
  | cons c m ih =>
    obtain ⟨a, b⟩ := c
    have : addr < a := h (a, b) (by simp)
    rw [imageRead, if_neg (by omega), ih fun c hc => h c (by simp [hc])]

/-- A write lists no address but its own and those listed before. -/
theorem imageWrite_mem {addr : Nat} {v : Byte} {m : List Host.Cell} {c : Host.Cell} (h : c ∈ imageWrite addr v m) :
    c.1 = addr ∨ c ∈ m := by
  induction m with
  | nil =>
    unfold imageWrite at h
    split at h <;> simp_all
  | cons d m ih =>
    obtain ⟨a, b⟩ := d
    unfold imageWrite at h
    split at h
    · rcases List.mem_cons.mp h with rfl | h
      · exact .inr (by simp)
      · exact (ih h).imp_right (List.mem_cons_of_mem _)
    · split at h
      · split at h
        · exact .inr (List.mem_cons_of_mem _ h)
        · rcases List.mem_cons.mp h with rfl | h
          · exact .inl rfl
          · exact .inr (List.mem_cons_of_mem _ h)
      · split at h
        · exact .inr h
        · rcases List.mem_cons.mp h with rfl | h
          · exact .inl rfl
          · exact .inr h

/-- Every write below the end of memory keeps the one form (R135). -/
theorem imageWrite_wf {addr : Nat} {v : Byte} {m : List Host.Cell} (ha : addr < Config.imageBytes)
    (h : imageWf m = true) : imageWf (imageWrite addr v m) = true := by
  induction m with
  | nil =>
    unfold imageWrite
    split <;> simp_all [imageWf]
  | cons c m ih =>
    obtain ⟨a, b⟩ := c
    have hb := imageWf_below h
    have ht := imageWf_tail h
    unfold imageWrite
    split
    · next hlt =>
      refine imageWf_cons hb.1 (imageWf_head h) (fun c hc => ?_) (ih ht)
      rcases imageWrite_mem hc with hc | hc
      · omega
      · exact hb.2 c hc
    · split
      · next heq =>
        subst heq
        split
        · exact ht
        · next hv => exact imageWf_cons ha hv hb.2 ht
      · split
        · exact h
        · next hv =>
          refine imageWf_cons ha hv (fun c hc => ?_) h
          rcases List.mem_cons.mp hc with rfl | hc
          · simp only
            omega
          · have := hb.2 c hc
            omega

/-- The byte written is the byte read at its address. -/
theorem imageRead_write_same {addr : Nat} {v : Byte} {m : List Host.Cell} (h : imageWf m = true) :
    imageRead addr (imageWrite addr v m) = v := by
  induction m with
  | nil =>
    unfold imageWrite
    split <;> simp_all [imageRead]
  | cons c m ih =>
    obtain ⟨a, b⟩ := c
    have hb := imageWf_below h
    unfold imageWrite
    split
    · next hlt => rw [imageRead, if_neg (by omega), ih (imageWf_tail h)]
    · split
      · next heq =>
        subst heq
        split
        · next hv => rw [imageRead_below hb.2, hv]
        · simp [imageRead]
      · split
        · next hne hv =>
          rw [imageRead_below (m := (a, b) :: m) fun c hc => ?_, hv]
          rcases List.mem_cons.mp hc with rfl | hc
          · simp only
            omega
          · have := hb.2 c hc
            omega
        · simp [imageRead]

/-- A write leaves every other address alone. -/
theorem imageRead_write_other {addr x : Nat} {v : Byte} {m : List Host.Cell} (hx : x ≠ addr) :
    imageRead x (imageWrite addr v m) = imageRead x m := by
  induction m with
  | nil =>
    unfold imageWrite
    split <;> simp [imageRead, Ne.symm hx]
  | cons c m ih =>
    obtain ⟨a, b⟩ := c
    unfold imageWrite
    split
    · simp [imageRead, ih]
    · split
      · next heq =>
        subst heq
        split <;> simp [imageRead, Ne.symm hx]
      · split <;> simp [imageRead, Ne.symm hx]

/-- Bytes written in order keep the one form (R136). -/
theorem imageWriteAll_wf {addr : Nat} {vs : List Byte} {m : List Host.Cell} (h : imageWf m = true) :
    imageWf (imageWriteAll addr vs m) = true := by
  induction vs generalizing addr m with
  | nil => exact h
  | cons v vs ih =>
    unfold imageWriteAll
    split
    · next ha => exact ih (imageWrite_wf ha h)
    · exact ih h

/-- Bytes written in order leave the addresses outside them alone (R136). -/
theorem imageRead_writeAll_outside {addr x : Nat} {vs : List Byte} {m : List Host.Cell}
    (hx : x < addr ∨ addr + vs.length ≤ x) : imageRead x (imageWriteAll addr vs m) = imageRead x m := by
  induction vs generalizing addr m with
  | nil => rfl
  | cons v vs ih =>
    simp only [List.length_cons] at hx
    unfold imageWriteAll
    rw [ih (by omega)]
    split
    · exact imageRead_write_other (by omega)
    · rfl

/-- Bytes written in order stand at their addresses, but for those at the end of memory and beyond (R136). -/
theorem imageRead_writeAll_inside {addr i : Nat} {vs : List Byte} {m : List Host.Cell} (h : imageWf m = true)
    (hi : i < vs.length) (ha : addr + i < Config.imageBytes) :
    imageRead (addr + i) (imageWriteAll addr vs m) = vs.getD i 0#8 := by
  induction vs generalizing addr i m with
  | nil => simp at hi
  | cons v vs ih =>
    unfold imageWriteAll
    rw [if_pos (by omega)]
    cases i with
    | zero =>
      rw [Nat.add_zero, imageRead_writeAll_outside (by omega), imageRead_write_same h]
      rfl
    | succ i =>
      have := ih (addr := addr + 1) (i := i) (imageWrite_wf (v := v) (addr := addr) (by omega) h) (by simpa using hi)
        (by omega)
      simpa [Nat.add_assoc, Nat.add_comm 1 i] using this

end Sys2Proof.Machine
end

