-- ==== Sys2Proof/Laws/Operations.lean ====
section
/-! SUPPORT. What the shared operations of the catalogue, the stage and the monitor do where they do nothing, and the
bounds they keep. -/

namespace Sys2Proof.Machine

/-- There is no ACTIVE slot exactly when no record is ACTIVE. -/
theorem activeSlot_isNone_iff (s : State) : (activeSlot s).isNone = true ↔ ∀ r ∈ s.cat, r.state ≠ .active := by
  simp [activeSlot]

/-- A lookup that may not run leaves no trace (R32). -/
theorem requestLookup_of_not_runs {s : State} (h : lookupRuns s = false) : requestLookup s = s := by
  simp [requestLookup, h]

/-- With no record ACTIVE there is no deactivation. -/
theorem deactivate_of_none {s : State} (h : ∀ r ∈ s.cat, r.state ≠ .active) : deactivate s = s := by
  simp [deactivate, (activeSlot_isNone_iff s).mpr h]

/-- After a deactivation's first steps no record is ACTIVE and no plan is in force (R36). -/
theorem withdrawActive_spec (s : State) :
    (∀ r ∈ (withdrawActive s).cat, r.state ≠ .active) ∧ (withdrawActive s).plan = none := by
  refine ⟨?_, rfl⟩
  intro r hr
  simp only [withdrawActive, setPlan_cat, setStore_cat, setCat_cat, List.mem_map] at hr
  obtain ⟨x, -, rfl⟩ := hr
  split <;> simp_all

/-- With a group open an application point passes (R147). -/
theorem applicationPoint_of_open {s : State} (h : s.stage.groupOpen = true) : applicationPoint s = s := by
  simp [applicationPoint, h]

/-- With an empty list an application point passes (R147). -/
theorem applicationPoint_of_empty {s : State} (h : s.stage.edits = []) : applicationPoint s = s := by
  simp [applicationPoint, h]

/-- The period list holds at most four periods (R14). -/
theorem enterPeriod_length (p : Nat) (periods : List Nat) (h : periods.length ≤ 4) :
    (enterPeriod p periods).length ≤ 4 := by
  unfold enterPeriod
  split <;> simp <;> omega

/-- A time is not before the earliest allowed time exactly when every last launch has its spacing by then (R63). -/
theorem beforeEarliest_eq_false_iff (s : State) (t : Nat) :
    beforeEarliest s t = false ↔ ∀ l, s.pacer.last = some l → l.time + l.spacing ≤ t := by
  cases h : s.pacer.last <;> simp [beforeEarliest, earliest, h]

/-- The forced launch that follows a last launch: at Tmax after it, between now and d, not before its spacing (R64, R68). -/
theorem forcedAfter_eq_some_iff {now d tmax t : Nat} {last : Option Deciding} :
    forcedAfter now d tmax last = some t ↔
      ∃ l, last = some l ∧ t = l.time + tmax ∧ now ≤ t ∧ t ≤ d ∧ l.spacing ≤ tmax := by
  cases last with
  | none => simp [forcedAfter]
  | some l =>
    simp only [forcedAfter, Option.bind_some, Option.some.injEq, exists_eq_left']
    constructor
    · split
      · rintro ⟨⟩; simp_all
      · nofun
    · rintro ⟨rfl, h⟩
      simp [h]

/-- A timer's remainder does not change when it is made to run or to pause (R80). -/
theorem Timer.left_set (run : Bool) (t : Nat) (x : Timer) : (x.set run t).left t = x.left t := by
  cases x <;> cases run <;> simp [Timer.set, Timer.left]

end Sys2Proof.Machine
end

