-- ==== Sys2Proof/Laws/Port.lean ====
section
/-! SUPPORT. What the control port's queue operations and the serving of a request do, once each. -/

namespace Sys2Proof.Machine

/-- Promotion moves at most the head of the request queue into processing: nothing else of the port changes, as many
requests are held as before, and no request waits behind an idle processing. -/
theorem promote_spec (c : ControlPort) :
    requestsHeld (promote c) = requestsHeld c ∧ (promote c).replies = c.replies
      ∧ ((promote c).processing = none → (promote c).requests = [])
      ∧ promote c = { c with requests := (promote c).requests, processing := (promote c).processing } := by
  rcases c with ⟨ph, ho, rq, pr, rp, tx, sd, n⟩
  cases pr <;> cases rq <;> simp [promote, requestsHeld]

/-- A queued request adds one to the requests held. -/
theorem requestsHeld_enqueue (r : Request) (c : ControlPort) : requestsHeld (enqueue r c) = requestsHeld c + 1 := by
  simp only [enqueue, (promote_spec _).1]
  simp [requestsHeld, Nat.add_right_comm]

/-- The end of a processing, written out: the reply at the tail, and the head of the queue in processing. -/
theorem finish_spec (code : Byte) (a : Answer) :
    finish code a = { a.st with ctl := { a.st.ctl with
      replies := a.st.ctl.replies ++ [⟨code, a.status, a.data⟩]
      processing := a.st.ctl.requests.head?
      requests := a.st.ctl.requests.tail } } := by
  rcases a with ⟨s, st, d⟩
  rcases h : s.ctl with ⟨ph, ho, rq, pr, rp, tx, sd, n⟩
  cases rq <;> simp [finish, promote, State.setCtl, h]

/-- The end of a processing leaves the capacity in use as it was. -/
theorem capacityInUse_finish (code : Byte) (a : Answer) (h : a.st.ctl.processing.isSome = true) :
    capacityInUse (finish code a).ctl = capacityInUse a.st.ctl := by
  rw [finish_spec]
  cases hq : a.st.ctl.requests <;> simp [capacityInUse, requestsHeld, h, hq]
  all_goals omega

/-- Queuing a request leaves the transaction in progress as it is. -/
@[simp] theorem enqueue_txn (r : Request) (c : ControlPort) : (enqueue r c).txn = c.txn := by
  unfold enqueue
  rw [(promote_spec _).2.2.2]

/-- A rising edge of SCK leaves SDO as it is (R157). -/
theorem sdoPin_clockIn (b : Bool) (s : State) : sdoPin (clockIn b s).ctl = sdoPin s.ctl := by
  unfold clockIn
  cases h : s.ctl.txn with
  | none => simp
  | some x =>
    simp only []
    split
    · simp [putTxn, sdoPin, h]
    · unfold readByte readPost completePost findMalformed
      (repeat' split) <;> simp [putTxn, sdoPin, h, deliver]
      split <;> simp

/-- A falling edge of SCK puts the next bit on SDO (R157). -/
theorem sdoPin_shiftSdo (s : State) :
    sdoPin (shiftSdo s).ctl = s.ctl.txn.map fun x => nextBit x.stream x.clocks := by
  unfold shiftSdo
  cases h : s.ctl.txn <;> simp [sdoPin, putTxn, Txn.shiftOut, h]

/-- A request's command on a request of its own code. -/
theorem serve_of_processing {code : Byte} {ps : List Byte} {s : State} (body : List Byte → State → Answer) (t : Nat)
    (h : s.ctl.processing = some ⟨code, ps⟩) : serve code body t s = finish code (body ps (tick t s)) := by
  simp [serve, h]

/-- A request's command on any other state. -/
theorem serve_of_other {code : Byte} {s : State} (body : List Byte → State → Answer) (t : Nat)
    (h : ∀ ps, s.ctl.processing ≠ some ⟨code, ps⟩) : serve code body t s = s := by
  unfold serve
  split
  · split
    · rename_i r hr hc
      exact absurd (hr.trans (by rw [← hc])) (h r.params)
    · rfl
  · rfl

end Sys2Proof.Machine
end

