-- ==== Sys2Proof/WellFormed.lean ====
section
/-! DEFINITION. Which commands are well formed: those whose operands the spec admits. The machine is total: it answers an
ill-formed command too, as the rule that covers it says. -/

namespace Sys2Proof

/-- Periods of SCK are at least one. -/
def WireEvent.wellFormed : WireEvent → Bool
  | .fall | .sckRise _ | .sckFall | .rise => true
  | .clocks sdi => !sdi.isEmpty

/-- Well-formedness of a command. A PIXEL_TRANSFER carries at least one pixel: with all four lane enables low,
data-enable is low and the transfer carries none (R2). -/
def Instr.wellFormed : Instr → Bool
  | .pixelTransfer _ l0 l1 l2 l3 => l0.isSome || l1.isSome || l2.isSome || l3.isSome
  | .post _ ev | .malformedPost _ ev | .fetch _ ev | .statusOnly _ ev => ev.wellFormed
  | .externalReset _ _ | .startupComplete _ | .sourceFrameStart _ _ _ _ _ _ | .lineStart _ | .activeLineStart _ _
  | .lineComplete _ | .signalOkFall _ | .frameStartTimerExpiry | .liveLaunch | .predictedRedraw | .periodicLaunch
  | .forcedDeadline | .holdTimerExpiry | .restTimerExpiry | .panelLineStart | .scanEnd | .trailEnd | .switchEnd _
  | .unknownCode _ | .echo _ | .identify _ | .start _ | .standby _ | .wake _
  | .resetPart _ | .eventMask _ | .eventRead _ | .groupOpen _ | .groupClose _ | .catStore _ | .catRetire _
  | .catRead _ | .catStats _ | .catFind _ | .catLock _ | .catList _ | .winDefine _ | .winPlace _ | .winShow _
  | .winRetire _ | .winRead _ | .imgWrite _ | .imgRead _ | .profileSet _ | .profileRead _ | .setTimers _
  | .setFill _ | .observe _ | .pacingRead _ | .csnSeenHigh _ => true

end Sys2Proof
end

