-- ==== Sys2Proof/Tests/Slice0.lean ====
section
/-! SUPPORT. The model's own tests: the refusals of WellFormed, one small step for each command with the result the manual
gives (worked by hand from its rules and tables), and for every statement with hypotheses a state and operands that meet
them. -/

namespace Sys2Proof.Tests

open Sys2Proof.Machine Sys2Proof.Cert

-- One theorem at a time: each thread of a parallel elaboration reserves a gigabyte.
set_option Elab.async false

/-! ### Helpers -/

/-- The state a command leaves. -/
def run (c : Instr) (s : State) : State :=
  match exec c s with
  | .next s' => s'
  | .fault _ | .refused _ => s

/-- Bytes from numbers. -/
def bytes (l : List Nat) : List Byte := l.map (BitVec.ofNat 8)

/-- The part READY, with transactions taken. -/
def ready : State := { State.reset with ctl := { State.reset.ctl with phase := .ready, heldOff := false } }

/-- A request in processing. -/
def serving (code : Byte) (ps : List Byte) (s : State) : State :=
  { s with ctl := { s.ctl with processing := some { code := code, params := ps } } }

/-- The last reply's status and data. -/
def reply (s : State) : Option (Status × List Byte) := s.ctl.replies.getLast?.map fun r => (r.status, r.data)

/-- The answer to a request processed in a state. -/
def answer (c : Instr) (code : Byte) (ps : List Nat) (s : State) : Option (Status × List Byte) :=
  reply (run c (serving code (bytes ps) s))

/-- A reply expected, its data as numbers. -/
def got (status : Status) (data : List Nat) : Option (Status × List Byte) := some (status, bytes data)

/-- The panel of the table of R107, with its first row's periods. -/
def profileA : Profile :=
  { valid := true, wp := 3840, hp := 2160, lpMin := 5000, lpMax := 8000, nlead := 30, nfpMin := 32, tmax := 2083333,
    fr := 1388889, switchTime := 1000, redraw := true }

/-- The same panel with a wide line period range. -/
def profileB : Profile := { profileA with lpMax := 30000, tmax := 4200000 }

/-- A small panel, whose figures are easy to work by hand: 10 ticks a line. -/
def small : Profile :=
  { valid := true, wp := 4, hp := 6, lpMin := 160, lpMax := 320, nlead := 2, nfpMin := 1, tmax := 1000, fr := 500,
    switchTime := 50, redraw := true }

/-- The port in BLANK on profile 0, with the pacer in a state. -/
def driving (p : Profile) (st : PacerState) : State :=
  { ready with
    panel := { ready.panel with profiles := [p, p, .invalid, .invalid], current := some 0, state := .blank }
    pacer := { ready.pacer with state := st } }

/-- An observation of 1,920 by 1,080 at 60 frames a second. -/
def seen : Observation := { Observation.cleared with width := 1920, height := 1080, ls := 23704, slead := 60000 }

/-- A record of any source, fitted to profile 0. -/
def anyContent : Content :=
  { key := { width := none, height := none, format := none, depth := none, window := none, vrr := none }
    present := { profile := 0, mode := .fit, wout := 0, hout := 0, xoff := 0, yoff := 0, guard := 2, fill := ⟨1, 2, 3⟩ }
    pacing := { given := false, redraw := .predict, ceiling := 16777215 }
    label := [10, 11] }

def readyRecord : ModeRecord := { ModeRecord.free with state := .ready, content := some anyContent }

/-- A small plan: one source line in 1,000 ticks, two picture lines of two pixels at (1, 1). -/
def smallPlan : Plan :=
  { slot := 0, profile := 0, win := 2, hin := 2, wout := 2, hout := 2, xoff := 1, yoff := 1, sh := 65536, sv := 65536,
    lp := 160, plead := 20, tscan := 80, tmin := 90, d := 0, w := 100, de := 100, q := 4, slack := 124, amax := 1000,
    limit := 50, predict := false }

/-- The ACTIVE record of a running presentation. -/
def activeRec : ModeRecord := { readyRecord with state := .active, fit := .fit smallPlan }

/-- A source frame being watched, ended or not. -/
def frameOf (lines : Nat) (ended : Bool) : SourceFrame :=
  { start := 0, format := .full, depth := .d8, vrr := false, game := false, lines := lines, width0 := 1920,
    line0At := 500, ls := 23704, slead := 500, regular := true, ended := ended }

/-- LIVE, SETTLED, presenting slot 0 of a one-slot catalogue. -/
def live : State :=
  { driving small .live with
    now := 100
    mon := { ready.mon with state := .settled, obs := seen, frame := some (frameOf 1080 true) }
    cat := [activeRec]
    plan := some smallPlan }

/-- A source line with active data, of some width. -/
def lineOf (width : Nat) : SourceLine :=
  { active := true, complete := false, width := width, number := 0, frameStart := 0, inFrame := true }

/-- A frame entry being stored from the frame that started at 0. -/
def entry0 : FrameEntry :=
  { tag := .a, start := 0, plan := smallPlan, fill := ⟨1, 2, 3⟩, format := .full, depth := .d8, phase := .decided,
    storing := true, begun := 0, mode := .live, nextLine := 0 }

/-- A panel frame of the small profile launched at tick 1,000. -/
def panelFrame (kind : LaunchKind) (next : Nat) : PanelFrame :=
  { launch := 1000, kind := kind, lf := 160, profile := some 0, wp := 4, hp := 6, nlead := 2, nfpMin := 1,
    fill := ⟨1, 2, 3⟩, nextLine := next }

/-- The port sending a frame. -/
def scanning (kind : LaunchKind) (next : Nat) (st : PortState) : State :=
  let s := driving small .freeRun
  { s with panel := { s.panel with state := st, frame := some (panelFrame kind next) } }

/-! ### WellFormed -/

theorem test_wf_transfer_without_pixels : (Instr.pixelTransfer 0 none none none none).wellFormed = false := by decide
theorem test_wf_no_edge_of_sck :
    ∀ c ∈ wireRows 0 (.clocks []), c.wellFormed = false := by decide
theorem test_wf_instants_of_a_transaction :
    ∀ ev ∈ [WireEvent.fall, .sckRise true, .sckFall, .clocks [true], .rise], ∀ c ∈ wireRows 0 ev, c.wellFormed = true := by decide

/-! ### Decode -/

/-- No row of the table gives bits, so no word spells a command and nothing is put in the queue. -/
theorem test_no_word_spells_a_command :
    decodeTableWord 16 0x1234 = none ∧ (ready.withFetchWord 16 0x1234).pending = [] := by decide

/-! ### Reset, start-up and the queue -/

theorem test_external_reset : let s := run (.externalReset 9 true) { live with overlay := { live.overlay with writePtr := 5 } }
    s.ctl.phase = .starting ∧ s.ctl.heldOff = true ∧ s.pacer.state = .standby ∧ s.overlay.writePtr = 0 := by
  decide +kernel
theorem test_startup_complete : let s := run (.startupComplete 9) { State.reset with
      overlay := { State.reset.overlay with image := [(3, 7#8)] } }
    s.ctl.phase = .ready ∧ imageRead 3 s.overlay.image = 0#8 := by decide +kernel
theorem test_csn_seen_high : (run (.csnSeenHigh 9) State.reset).ctl.heldOff = false := by decide +kernel

theorem test_StepRunsFrontCommand_witness :
    let s : State := { ready with pending := [.csnSeenHigh 3, .startupComplete 4] }
    s.pending = .csnSeenHigh 3 :: [.startupComplete 4] ∧ ∃ s', step s = .next s' ∧ s'.pending = [.startupComplete 4] :=
  ⟨rfl, _, rfl, rfl⟩
theorem test_CommandsNeedTheirOccasion_witness :
    State.reset.pending = [] ∧ (∀ code ps, ¬Serving State.reset code ps) ∧ State.reset.mon.timer = none
      ∧ State.reset.pacer.pending = none ∧ State.reset.pacer.schedule = [] ∧ State.reset.pacer.deadline = none
      ∧ State.reset.pacer.state ≠ .hold ∧ State.reset.pacer.state ≠ .freeRun ∧ State.reset.panel.frame = none
      ∧ (∀ e, State.reset.panel.phase ≠ .switching e)
      ∧ (let s : State := { State.reset with panel := { State.reset.panel with phase := .switching 5 } }
        s.panel.phase = .switching 5 ∧ s.pacer.state ≠ .freeRun ∧ s.pacer.state ≠ .hold) :=
  ⟨rfl, fun _ _ => nofun, rfl, rfl, rfl, rfl, nofun, nofun, rfl, fun _ => nofun, rfl, nofun, nofun⟩
theorem test_ResetAndStartUp_witness : State.reset.ctl.phase = .starting ∧ ready.ctl.phase = .ready := ⟨rfl, rfl⟩

/-! ### Transactions -/

/-- A transaction in progress, with the bytes it has received and what has been found of it. -/
def inTxn (received : List Byte) (x : TxnFinding) (s : State) : State :=
  { s with ctl := { s.ctl with
      txn := some { status0 := 0x80#8, status1 := 0x01#8, chosen := s.ctl.replies.head?
                    chosenHeld := s.ctl.replies.head?.isSome, bits := [], received := received, finding := x
                    drive := false } } }

/-- The levels of SDI that send bytes. -/
def sending (l : List Nat) : WireEvent := .clocks ((bytes l).flatMap bitsOfByte)

/-- One reply of two data bytes waiting. -/
def oneReply : State := { ready with ctl := { ready.ctl with replies := [⟨0x10#8, .ok, [0xAA#8, 0x55#8]⟩] } }

/-- Replies waiting, as many as a number. -/
def fullOf (n : Nat) : State := { ready with ctl := { ready.ctl with replies := List.replicate n ⟨0x10#8, .ok, []⟩ } }

theorem test_post_accepted : let s := run (.post 5 (sending [1, 0x10, 1, 7])) (inTxn [] .undecided ready)
    s.ctl.processing = some ⟨0x10#8, [7#8]⟩ ∧ s.ctl.txn.map (·.finding) = some (.decided 1 0x01#8)
      ∧ s.ctl.txn.map (·.received) = some (bytes [1, 0x10, 1, 7]) := by decide +kernel
/-- A POST of no parameter is complete with byte 3, and byte 4 is its accept byte. -/
theorem test_post_sends_accept_byte :
    let s := run (.post 5 .rise) (run (.post 5 (sending [1, 0x10, 0, 0, 0])) (inTxn [] .undecided (fullOf 8)))
    s.ctl.sdo.length = 40 ∧ s.ctl.sdo.take 16 = [true] ++ List.replicate 14 false ++ [true]
      ∧ (s.ctl.sdo.drop 24).take 8 = List.replicate 6 false ++ [true] ++ [false] ∧ s.ev.flags = 0#16 := by
  decide +kernel
theorem test_unknown_kind_sets_port_error :
    let s := run (.malformedPost 5 (sending [4])) (inTxn [] .undecided ready)
    s.ev.flags = 0x2000#16 ∧ s.ctl.txn.map (·.finding) = some (.malformed 3) := by decide +kernel
theorem test_length_of_97_sets_port_error :
    let s := run (.malformedPost 5 (sending [1, 0x10, 97])) (inTxn [] .undecided ready)
    s.ev.flags = 0x2000#16 ∧ s.ctl.txn.map (·.finding) = some (.malformed 4) := by decide +kernel
theorem test_fetch_whole_removes_the_reply :
    let s := run (.fetch 5 .rise) (run (.fetch 5 (sending [2, 0, 0, 0, 0, 0, 0])) (inTxn [] .undecided oneReply))
    s.ctl.replies = [] ∧ s.ctl.sdo.length = 56 ∧ s.ctl.sdo.drop 40 = [true, false, true, false, true, false, true, false,
      false, true, false, true, false, true, false, true] := by
  decide +kernel
/-- Seven edges of the last byte are not the byte. -/
theorem test_fetch_cut_short_keeps_the_reply :
    (run (.fetch 5 .rise) (run (.fetch 5 (.clocks (List.replicate 7 false)))
      (inTxn (bytes [2, 0, 0, 0, 0, 0]) .undecided oneReply))).ctl.replies.length = 1 := by decide +kernel
theorem test_status_only_snapshot :
    (run (.statusOnly 5 .fall) oneReply).ctl.txn.map (fun x => (x.status0, x.status1)) = some (0x80#8, 0x01#8) := by
  decide +kernel
/-- SDO is at high impedance outside a transaction and shows bit 7 of status byte 0, which READY sets, from the fall of CS_N
until the first falling edge of SCK; a rising edge leaves it as it is. -/
theorem test_sdo_pin : sdoPin State.reset.ctl = none ∧ sdoPin ready.ctl = none
    ∧ (let s0 := run (.statusOnly 5 .fall) ready
      let s1 := run (.statusOnly 5 (.sckRise false)) s0
      sdoPin s0.ctl = some true ∧ sdoPin s1.ctl = some true ∧ sdoPin (run (.statusOnly 5 .sckFall) s1).ctl = some false)
    ∧ sdoPin (run (.statusOnly 5 (.clocks [false])) (run (.statusOnly 5 .fall) ready)).ctl = some false := by decide +kernel

theorem test_FallOfCsnTakesSnapshot_witness :
    (oneReply.ctl.heldOff = false ∧ oneReply.ctl.txn = none) ∧ State.reset.ctl.heldOff = true
      ∧ (∃ y, (inTxn [0x01#8] .undecided ready).ctl.txn = some y ∧ y.bits.length + [true].length < 8 ∧ y.bits.length < 8
        ∧ [true] ≠ []) :=
  ⟨⟨rfl, rfl⟩, rfl, _, rfl, by decide, by decide, nofun⟩
theorem test_PostCompletionDecides_witness :
    (∀ ps : List Byte, ps.length = 96 → ∀ s : State, ∃ y,
        (inTxn ([0x01#8, 0x10#8, 96#8] ++ ps.take 95) .undecided s).ctl.txn = some y ∧ y.finding = .undecided
          ∧ Completes y (bitsOfByte (ps.getD 95 0#8)) (ps.getD 95 0#8))
      ∧ bytes ([1, 0x10, 96] ++ List.replicate 95 0) ++ [0#8] = [0x01#8, 0x10#8, BitVec.ofNat 8 96] ++ List.replicate 96 0#8
      ∧ bytes [1, 0x10] ++ [0#8] = [0x01#8, 0x10#8, BitVec.ofNat 8 0] ++ []
      ∧ State.reset.ctl.phase = .starting
      ∧ (let c := (fullOf 8).ctl
        c.phase = .ready ∧ 8 ≤ c.requests.length + (if c.processing.isSome then 1 else 0) + c.replies.length)
      ∧ (let c := (fullOf 7).ctl
        c.phase = .ready ∧ c.requests.length + (if c.processing.isSome then 1 else 0) + c.replies.length < 8
          ∧ c.processing = none ∧ c.requests = [])
      ∧ (let c := (serving 0x10#8 [] (fullOf 6)).ctl
        c.phase = .ready ∧ c.requests.length + (if c.processing.isSome then 1 else 0) + c.replies.length < 8
          ∧ c.processing ≠ none) :=
  ⟨fun _ _ _ => ⟨_, rfl, rfl, by simp [bitsOfByte], rfl⟩, by decide +kernel⟩
theorem test_PostEnds_witness :
    (∃ y, (inTxn [0x01#8] (.decided 96 0x01#8) ready).ctl.txn = some y ∧ y.received.head? = some 0x01#8
        ∧ y.finding = .decided 96 0x01#8)
      ∧ (∃ y, (inTxn [0x01#8, 0x10#8] .undecided ready).ctl.txn = some y ∧ y.received.head? = some 0x01#8
        ∧ y.finding = .undecided)
      ∧ ∃ y, (inTxn [] .undecided ready).ctl.txn = some y ∧ y.received = [] ∧ y.bits.length < 8 :=
  ⟨⟨_, rfl, rfl, rfl⟩, ⟨_, rfl, rfl, rfl⟩, _, rfl, rfl, by decide⟩
theorem test_MalformedTransactions_witness :
    (∀ k ∈ [0x00#8, 0x04#8, 0xFF#8], k ≠ 0x01#8 ∧ k ≠ 0x02#8 ∧ k ≠ 0x03#8 ∧ ∀ y : Txn, y.bits = [] →
        Completes y (bitsOfByte k) k) ∧ 96 < (97#8 : Byte).toNat
      ∧ (∃ y, (inTxn [] .undecided ready).ctl.txn = some y ∧ y.finding = .undecided ∧ y.received = [])
      ∧ (∃ y, (inTxn [0x01#8, 0x10#8] .undecided ready).ctl.txn = some y ∧ y.finding = .undecided
        ∧ y.received = [0x01#8, 0x10#8])
      ∧ (∃ y, (inTxn [0x04#8] (.malformed 3) ready).ctl.txn = some y ∧ y.finding = .malformed 3
        ∧ y.received.head? = some 0x04#8)
      ∧ ∃ y, (inTxn [0x01#8, 0x10#8, 97#8] (.malformed 4) ready).ctl.txn = some y ∧ y.finding = .malformed 4
        ∧ y.received.head? = some 0x01#8 :=
  ⟨fun k hk => by
      have : k ≠ 0x01#8 ∧ k ≠ 0x02#8 ∧ k ≠ 0x03#8 := by revert k; decide
      exact ⟨this.1, this.2.1, this.2.2, fun y hy => ⟨by simp [bitsOfByte], by rw [hy]; rfl⟩⟩,
    by decide, ⟨_, rfl, rfl, rfl⟩, ⟨_, rfl, rfl, rfl⟩, ⟨_, rfl, rfl, rfl⟩, _, rfl, rfl, rfl⟩
theorem test_FetchAndStatusOnlyEnd_witness :
    (∃ y r, (inTxn (bytes [2, 0, 0, 0, 0, 0, 0]) .undecided oneReply).ctl.txn = some y ∧ y.finding = .undecided
        ∧ y.received.head? = some 0x02#8 ∧ y.chosen = some r ∧ y.chosenHeld = true
        ∧ 5 + r.data.length = y.received.length)
      ∧ (∃ y r, (inTxn (bytes [2, 0, 0, 0, 0, 0]) .undecided oneReply).ctl.txn = some y ∧ y.chosen = some r
        ∧ y.received.length < 5 + r.data.length)
      ∧ (∃ y, (inTxn [0x02#8] .undecided ready).ctl.txn = some y ∧ y.received.head? = some 0x02#8 ∧ y.chosen = none)
      ∧ (∃ y, (inTxn [0x03#8] .undecided ready).ctl.txn = some y ∧ y.finding = .undecided
        ∧ y.received.head? = some 0x03#8)
      ∧ (∃ y, (inTxn [] .undecided ready).ctl.txn = some y ∧ y.received = [] ∧ Completes y (bitsOfByte 0x02#8) 0x02#8)
      ∧ ∃ y, (inTxn [0x01#8] .undecided ready).ctl.txn = some y ∧ y.received = [0x01#8] :=
  ⟨⟨_, _, rfl, rfl, rfl, rfl, rfl, rfl⟩, ⟨_, _, rfl, rfl, by decide +kernel⟩, ⟨_, rfl, rfl, rfl⟩, ⟨_, rfl, rfl, rfl⟩,
    ⟨_, rfl, rfl, by simp [bitsOfByte], rfl⟩, _, rfl, rfl⟩

/-! ### Requests of the port, the Event Unit and the stage -/

/-- A request served in a state is in processing there. -/
theorem test_serving_serves (code : Byte) (ps : List Byte) (s : State) : Serving (serving code ps s) code ps := rfl

/-- A state with an edit staged, a group open or not, in a pacer state. -/
def staging (st : PacerState) (open_ : Bool) : State :=
  { driving small st with stage := { edits := [.setFill ⟨4, 5, 6⟩], groupOpen := open_ } }

theorem test_unknown_code_is_bad_code :
    answer (.unknownCode 7) 0x1A#8 [1, 2, 3, 4, 5, 6, 7, 8, 9] ready = got .badCode [1, 2, 3, 4, 5, 6, 7, 8] := by
  decide +kernel
theorem test_echo_returns_parameters : answer (.echo 7) 0x10#8 [1, 255, 3] ready = got .ok [1, 255, 3] := by
  decide +kernel
theorem test_identify_names_the_part :
    answer (.identify 7) 0x11#8 [] ready = got .ok [0x47, 0x58, 0x32, 0x38, 1, 48, 16, 128, 128, 8, 16, 96, 0, 0] := by
  decide +kernel
theorem test_reset_part_counts_and_discards :
    let s := run (.resetPart 7) (serving 0x15#8 [] (fullOf 2))
    s.ctl.replies = [⟨0x15#8, .ok, bytes [0, 2]⟩] ∧ s.ctl.partResets = 1 := by decide +kernel
theorem test_reset_part_keeps_the_record_and_its_lock :
    let s := run (.resetPart 7) (serving 0x15#8 [] { live with cat := [{ activeRec with locked := true }] })
    s.cat = [{ readyRecord with locked := true }] ∧ s.pacer.state = .standby := by decide +kernel
theorem test_event_mask_sets_and_clears :
    answer (.eventMask 7) 0x16#8 [0, 5, 32, 0] { ready with ev := { ready.ev with mask := 0x2002#16 } }
      = got .ok [0, 7] := by decide +kernel
theorem test_event_read_reports_and_clears :
    let s := run (.eventRead 7) (serving 0x17#8 [] { oneReply with ev := { flags := 0x2004#16, mask := 0x0001#16 } })
    reply s = got .ok [0x20, 0x05, 0, 1] ∧ s.ev.flags = 0#16 := by decide +kernel
theorem test_group_open_reports_the_edits : answer (.groupOpen 7) 0x18#8 [] (staging .live false) = got .ok [1] := by
  decide +kernel
theorem test_group_close_applies_in_standby :
    let s := run (.groupClose 7) (serving 0x19#8 [] (staging .standby true))
    reply s = got .ok [1, 1] ∧ s.panel.fill = ⟨4, 5, 6⟩ ∧ s.ev.flags = 0x0040#16 := by decide +kernel
theorem test_group_close_holds_in_live : answer (.groupClose 7) 0x19#8 [] (staging .live true) = got .ok [1, 0] := by
  decide +kernel

theorem test_UnknownCodeAndIdentify_witness :
    (∀ code ∈ [0x00#8, 0x0F#8, 0x1A#8, 0x1F#8, 0x27#8, 0x52#8, 0xFF#8], code ∉ (requestCommands 0).map Prod.snd)
      ∧ Serving (serving 0x1A#8 [] ready) 0x1A#8 [] ∧ Serving (serving 0x11#8 [0#8] ready) 0x11#8 [0#8] := by
  refine ⟨by decide, rfl, rfl⟩
theorem test_EchoReturnsItsParameters_witness : Serving (serving 0x10#8 [7#8] ready) 0x10#8 [7#8] := rfl
theorem test_EventMaskSetsTheMask_witness : (∀ ps, Serving (serving 0x16#8 ps ready) 0x16#8 ps)
    ∧ (bytes [1, 2, 3]).length ≠ 4
    ∧ (let ps := bytes [64, 0, 0, 0]
      ps.length = 4 ∧ ∃ i, 14 ≤ i ∧ (BitVec.ofNat 16 (field ps 0 2)).getLsbD i = true)
    ∧ (let ps := bytes [0, 1, 0, 1]
      ps.length = 4 ∧ ∃ i, (BitVec.ofNat 16 (field ps 0 2)).getLsbD i = true
        ∧ (BitVec.ofNat 16 (field ps 2 2)).getLsbD i = true)
    ∧ (let ps := bytes [63, 0, 0, 255]
      let on := BitVec.ofNat 16 (field ps 0 2)
      let off := BitVec.ofNat 16 (field ps 2 2)
      ps.length = 4 ∧ (∀ i, 14 ≤ i → on.getLsbD i = false ∧ off.getLsbD i = false)
        ∧ ∀ i, ¬(on.getLsbD i = true ∧ off.getLsbD i = true)) := by
  refine ⟨fun _ => rfl, by decide, ⟨by decide, 14, by decide, by decide⟩, ⟨by decide, 0, by decide, by decide⟩,
    by decide, fun i hi => ?_, fun i => ?_⟩
  · by_cases h : i < 16
    · interval_cases i <;> decide
    · exact ⟨BitVec.getLsbD_of_ge _ _ (by omega), BitVec.getLsbD_of_ge _ _ (by omega)⟩
  · by_cases h : i < 16
    · interval_cases i <;> decide
    · simp [BitVec.getLsbD_of_ge _ i (show 16 ≤ i by omega)]
theorem test_EventReadReportsAndClears_witness :
    (∀ ps, Serving (serving 0x17#8 ps oneReply) 0x17#8 ps) ∧ (∀ i, 1 ≤ i → oneReply.ev.flags.getLsbD i = false)
      ∧ ∃ i, 1 ≤ i ∧ (deliver .portError ready).ev.flags.getLsbD i = true :=
  ⟨fun _ => rfl, fun _ _ => by simp [oneReply, ready, State.reset, EventUnit.reset], 13, by decide, by decide +kernel⟩
theorem test_GroupOpenHoldsTheStage_witness : (∀ ps s, Serving (serving 0x18#8 ps s) 0x18#8 ps)
    ∧ (staging .live true).stage.groupOpen = true ∧ (staging .live false).stage.groupOpen = false :=
  ⟨fun _ _ => rfl, rfl, rfl⟩
theorem test_GroupCloseReleasesTheStage_witness : (∀ ps s, Serving (serving 0x19#8 ps s) 0x19#8 ps)
    ∧ (staging .live false).stage.groupOpen = false
    ∧ (∀ st, (staging st true).stage.groupOpen = true ∧ (staging st true).pacer.state = st) :=
  ⟨fun _ _ => rfl, rfl, fun _ => ⟨rfl, rfl⟩⟩
theorem test_ResetPartReturnsRunningState_witness :
    Serving (serving 0x15#8 [] live) 0x15#8 [] ∧ Serving (serving 0x15#8 [1#8] live) 0x15#8 [1#8] := ⟨rfl, rfl⟩

/-! ### Requests of the pacer and the monitor -/

/-- A part reset in REST loads the rest timer (R80). -/
theorem test_part_reset_in_rest_loads_the_rest_timer :
    let s0 := driving small .rest
    let s := run (.resetPart 7) (serving 0x15#8 [] { s0 with pacer := { s0.pacer with restTime := 3, restTimer := .paused 0 } })
    s.pacer.restTimer = .paused 30000000 ∧ s.pacer.state = .standby := by decide +kernel

/-- FREE_RUN begins with a launch at the processing. -/
theorem test_start_enters_free_run :
    let s := run (.start 7) (serving 0x12#8 [0#8] (driving profileA .standby))
    reply s = got .ok [] ∧ s.pacer.state = .freeRun ∧ s.pacer.schedule = [⟨7, .periodic, .generated⟩] := by
  decide +kernel
theorem test_start_of_another_profile_switches :
    let s := run (.start 7) (serving 0x12#8 [1#8] (driving profileA .standby))
    s.panel.phase = .switching 1007 ∧ s.panel.current = some 1 ∧ s.pacer.schedule = [] := by decide +kernel
theorem test_standby_leaves_live :
    let s := run (.standby 107) (serving 0x13#8 [] live)
    reply s = got .ok [2] ∧ s.pacer.state = .standby ∧ s.panel.state = .idle ∧ s.cat.map (·.state) = [.ready] := by
  decide +kernel
/-- STANDBY in REST loads the rest timer (R80). -/
theorem test_standby_in_rest_loads_the_rest_timer :
    let s0 := driving small .rest
    let s := run (.standby 7) (serving 0x13#8 [] { s0 with pacer := { s0.pacer with restTime := 3, restTimer := .paused 0 } })
    reply s = got .ok [4] ∧ s.pacer.restTimer = .paused 30000000 := by decide +kernel
theorem test_wake_leaves_rest :
    (run (.wake 7) (serving 0x14#8 [] (driving profileA .rest))).pacer.schedule = [⟨7, .periodic, .generated⟩] := by
  decide +kernel
theorem test_set_timers_loads_the_rest_timer :
    let s := run (.setTimers 7) (serving 0x42#8 (bytes [9, 1, 0, 1]) (driving profileA .freeRun))
    reply s = got .ok [9, 1, 0, 1] ∧ s.pacer.restTimer = .running 2560000007 ∧ s.pacer.holdTime = 9 := by
  decide +kernel
theorem test_pacing_read_after_reset :
    answer (.pacingRead 7) 0x51#8 [] ready = got .ok ([0, 0, 5, 0, 0, 1] ++ List.replicate 47 0) := by decide +kernel
theorem test_observe_clears_the_loss_latch :
    let s := run (.observe 7) (serving 0x50#8 [] { ready with mon := { ready.mon with lossLatch := true } })
    reply s = got .ok ([0] ++ List.replicate 4 0 ++ [1, 1] ++ List.replicate 8 0 ++ [1, 0, 0, 0, 0, 1, 0] ++ [0, 0, 0, 0])
      ∧ s.mon.lossLatch = false := by
  decide +kernel

theorem test_StartEntersFreeRun_witness : (∀ ps s, Serving (serving 0x12#8 ps s) 0x12#8 ps)
    ∧ firstByte [4#8] = 4 ∧ firstByte [3#8] = 3 ∧ firstByte [1#8] = 1 ∧ firstByte [0#8] = 0
    ∧ (driving small .live).pacer.state ≠ .standby ∧ (driving small .standby).pacer.state = .standby
    ∧ (profileAt (driving small .standby) 3).valid = false
    ∧ (profileAt (driving small .standby) 0).valid = true ∧ (profileAt (driving small .standby) 1).valid = true
    ∧ (driving small .standby).mon.state ≠ .settled ∧ live.mon.state = .settled :=
  ⟨fun _ _ => rfl, by decide, by decide, by decide, by decide, nofun, rfl, rfl, rfl, rfl, nofun, rfl⟩
theorem test_StandbyStopsThePanel_witness : (∀ ps s, Serving (serving 0x13#8 ps s) 0x13#8 ps)
    ∧ (driving small .standby).pacer.state = .standby ∧ live.pacer.state ≠ .standby :=
  ⟨fun _ _ => rfl, rfl, nofun⟩
theorem test_WakeLeavesRest_witness : (∀ ps s, Serving (serving 0x14#8 ps s) 0x14#8 ps)
    ∧ (driving small .hold).pacer.state ≠ .rest ∧ (driving small .rest).pacer.state = .rest
    ∧ (currentProfile (driving .invalid .rest)).valid = false ∧ (currentProfile (driving small .rest)).valid = true
    ∧ (driving small .rest).mon.state ≠ .settled
    ∧ (let s : State := { live with pacer := { live.pacer with state := .rest } }
      s.mon.state = .settled ∧ (currentProfile s).valid = true) :=
  ⟨fun _ _ => rfl, nofun, rfl, rfl, rfl, nofun, rfl, rfl⟩
theorem test_SetTimersWritesTheSettings_witness : (∀ ps s, Serving (serving 0x42#8 ps s) 0x42#8 ps)
    ∧ (let ps := bytes [0, 0, 0, 2]
      ps.length = 4 ∧ 1 < field ps 3 1)
    ∧ (let ps := bytes [255, 255, 255, 1]
      ps.length = 4 ∧ field ps 3 1 ≤ 1) :=
  ⟨fun _ _ => rfl, by decide, by decide⟩
theorem test_PacingReadReportsThePacer_witness (ps : List Byte) : Serving (serving 0x51#8 ps live) 0x51#8 ps := rfl
theorem test_ObserveReportsTheSource_witness (ps : List Byte) : Serving (serving 0x50#8 ps live) 0x50#8 ps := rfl

/-! ### Requests of the catalogue -/

/-- A state whose catalogue holds a READY record in slot 1. -/
def stocked : State := { driving profileB .freeRun with cat := [.free, readyRecord] }

/-- The parameters of a CAT_STORE to slot 1: KEY, PRESENT, one unknown section, LABEL "AB", END. -/
def chainBytes : List Nat := [1] ++
      [1, 11, 0, 0, 0, 0, 0, 0, 0, 0, 0, 0, 0, 2, 16, 32, 0, 0, 0, 0, 0, 0, 0, 0, 2, 0, 1, 0, 2, 0, 3, 80, 1, 9,
      4, 2, 65, 66, 0]

/-- A source of 1,920 by 1,080, as CAT_FIND's supplied form gives it. -/
def suppliedBytes : List Nat := [7, 128, 4, 56, 1, 1, 0, 0, 92, 152, 0, 0, 234, 96, 1]

theorem test_cat_store_applies_in_standby :
    let s := run (.catStore 7) (serving 0x20#8 (bytes chainBytes) { ready with cat := [.free, .free] })
    reply s = got .staged [1] ∧ s.cat = [.free, readyRecord] ∧ s.stage.edits = [] := by decide +kernel
theorem test_cat_store_stages_in_free_run :
    (run (.catStore 7) (serving 0x20#8 (bytes chainBytes) stocked)).stage.edits = [.catStore 1 anyContent] := by
  decide +kernel
theorem test_cat_retire_keeps_the_lock : answer (.catRetire 7) 0x21#8 [1] { stocked with
    cat := [.free, { readyRecord with locked := true }] } = got .locked [1] := by decide +kernel
theorem test_cat_read_a_ready_record : answer (.catRead 7) 0x22#8 [1] stocked
    = got .ok ([1, 0] ++ List.replicate 11 0 ++ [0x20, 0, 0, 0, 0, 0, 0, 0, 0, 2, 0, 1, 0, 2, 0, 3]
        ++ [255, 255, 255, 2, 0x41, 0x42]) := by decide +kernel
theorem test_cat_stats_reports_and_clears :
    let s := run (.catStats 7) (serving 0x23#8 [0#8, 1#8]
      { live with cat := [{ activeRec with stats := { Stats.zero with skipped := 258 } }] })
    reply s = got .ok ([2] ++ List.replicate 8 0 ++ [0, 0, 1, 2] ++ List.replicate 28 0)
      ∧ s.cat.map (·.stats) = [.zero] := by decide +kernel
/-- The plan block worked by hand from R48 to R59. -/
theorem test_cat_find_gives_the_plan : answer (.catFind 7) 0x24#8 suppliedBytes stocked
    = got .ok ([1, 0, 0, 0] ++
      [240, 8, 112, 0, 0, 0, 0, 128, 0, 0, 128, 0, 0, 46, 76, 0, 86, 207, 0, 24, 192, 227, 0, 25, 29, 123, 0, 0,
      34, 185, 0, 0, 182, 74, 0, 0, 34, 185, 10, 118, 2, 170, 225, 2, 170, 225, 1]) := by
  decide +kernel
theorem test_cat_find_leaves_a_record_without_room : answer (.catFind 7) 0x24#8 suppliedBytes
    { driving profileA .freeRun with cat := [readyRecord] } = got .noMatch ((suppliedBytes).take 8) := by decide +kernel
theorem test_cat_lock_locks : let s := run (.catLock 7) (serving 0x25#8 [1#8] stocked)
    reply s = got .ok [1] ∧ s.cat.map (·.locked) = [false, true] := by decide +kernel
theorem test_cat_list_summarises : answer (.catList 7) 0x26#8 []
    { ready with cat := [.free, { activeRec with locked := true }, { readyRecord with fit := .unfit .depth }] }
    = got .ok ([0, 2 + 4 + 128, 1 + 8 + 64] ++ List.replicate 45 0) := by decide +kernel

/-- The sections of `chainBytes`, before its END. -/
def goodSections : List Section :=
  [(0x01#8, bytes (List.replicate 11 0)), (0x02#8, bytes ([32] ++ List.replicate 8 0 ++ [2, 0, 1, 0, 2, 0, 3])),
    (0x50#8, [9#8]), (0x04#8, bytes [65, 66])]

theorem test_SectionsRight_witness :
    SectionsRight goodSections ∧ SectionsRight []
    ∧ (1#8 :: sectionBytes goodSections ++ [0x00#8] = bytes chainBytes)
    ∧ bodyOf 0x03#8 goodSections = none ∧ bodyOf 0x01#8 ([] : List Section) = none
    ∧ keyOf (bytes (List.replicate 11 0)) = some anyContent.key
    ∧ ¬LengthRight 0x01#8 10 ∧ LengthRight 0x03#8 4 ∧ ¬FieldsRight 0x03#8 (bytes [2, 0, 0, 0])
    ∧ 0x50#8 ∈ goodSections.map Prod.fst := by
  unfold SectionsRight LengthRight FieldsRight
  exact ⟨by decide +kernel, by decide, by decide +kernel, by decide, by decide, by decide +kernel, by decide, by decide,
    by decide +kernel, by decide⟩
theorem test_CatStoreAndRetireStageEdits_witness :
    (∀ ps s, Serving (serving 0x20#8 ps s) 0x20#8 ps ∧ Serving (serving 0x21#8 ps s) 0x21#8 ps)
    ∧ firstByte [48#8] = 48 ∧ firstByte (bytes chainBytes) = 1
    ∧ (∃ e, chainOf ((bytes [1, 1]).drop 1) = .error e) ∧ (∃ e, chainOf ((bytes [1, 0]).drop 1) = .error e)
    ∧ chainOf ((bytes chainBytes).drop 1) = .ok (anyContent, 1)
    ∧ (recordAt stocked 1).locked = false ∧ (recordAt { stocked with cat := [{ readyRecord with locked := true }] } 0).locked = true :=
  ⟨fun _ _ => ⟨rfl, rfl⟩, by decide, by decide, ⟨.badLength, rfl⟩, ⟨.badValue, rfl⟩, by decide +kernel, rfl, rfl⟩
theorem test_CatReadStatsAndLock_witness :
    (∀ ps s, Serving (serving 0x22#8 ps s) 0x22#8 ps ∧ Serving (serving 0x23#8 ps s) 0x23#8 ps
      ∧ Serving (serving 0x25#8 ps s) 0x25#8 ps)
    ∧ firstByte [48#8] = 48 ∧ firstByte [47#8] = 47 ∧ field [1#8, 2#8] 1 1 = 2 ∧ field [1#8, 1#8] 1 1 = 1
    ∧ (recordAt stocked 0).state = .free ∧ (recordAt stocked 1).state ≠ .free
    ∧ (recordAt stocked 1).content = some anyContent :=
  ⟨fun _ _ => ⟨rfl, rfl, rfl⟩, by decide, by decide, by decide, by decide, rfl, nofun, rfl⟩
theorem test_CatListSummarisesTheCatalogue_witness (ps : List Byte) : Serving (serving 0x26#8 ps live) 0x26#8 ps := rfl
theorem test_CatFindSearchesWithoutActing_witness : (∀ ps s, Serving (serving 0x24#8 ps s) 0x24#8 ps)
    ∧ stocked.mon.state ≠ .settled ∧ live.mon.state = .settled
    ∧ suppliedObservation (bytes suppliedBytes) = some seen
    ∧ suppliedObservation (bytes (List.replicate 15 0)) = none
    ∧ (candidates stocked.cat seen = [] ++ 1 :: [] ∧ ∃ plan, planSlot 1 seen stocked = .fit plan)
    ∧ (let s : State := { driving profileA .freeRun with cat := [readyRecord] }
      ∀ i ∈ candidates s.cat seen, ∃ reason, planSlot i seen s = .unfit reason) := by
  have fits : planSlot 1 seen stocked = .fit (figuresOf 1 1920 1080 23704 60000 anyContent profileB 3840 2160 0 0) := by
    decide +kernel
  have one : candidates [readyRecord] seen = [0] := by decide +kernel
  have unfit : planSlot 0 seen { driving profileA .freeRun with cat := [readyRecord] } = .unfit .depth := by
    decide +kernel
  refine ⟨fun _ _ => rfl, nofun, rfl, by decide +kernel, by decide +kernel, ⟨by decide +kernel, _, fits⟩, ?_⟩
  intro s i hi
  have : i = 0 := by simpa [s, one] using hi
  exact ⟨_, this ▸ unfit⟩

/-! ### Requests of the windows and of image memory -/

/-- A WIN_DEFINE of window 3: SOLID, with z, alpha, scale and the palette outside their ranges. -/
def solidBytes : List Nat := [3, 0, 0, 10, 0, 20, 0, 100, 0, 50, 99, 20, 0, 255, 1, 255, 255, 255, 255]

/-- A figures window with a text row of sixteen glyphs. -/
def figuresDef : WindowDef :=
  { kind := .figures 2 5 [.label], x := 10, y := 20, w := 100, h := 50, z := 3, alpha := 16, scale := 1, binding := none,
    palette := [⟨1, 2, 3⟩] }

/-- Window 0 SHOWN with a definition; the others as they are. -/
def shownWindow (d : WindowDef) (s : State) : State :=
  { s with overlay := { s.overlay with windows := [⟨.shown, some d, 0, textOf s d.kind, 0⟩, .free] } }

theorem test_win_define_clamps : let s := run (.winDefine 7) (serving 0x30#8 (bytes solidBytes) ready)
    reply s = got .staged [] ∧ answer (.winRead 8) 0x34#8 [3, 0] s = got .ok
      [1, 0, 0, 10, 0, 20, 0, 100, 0, 50, 15, 16, 1, 255, 1, 0, 0]
      ∧ answer (.winRead 8) 0x34#8 [3, 1] s = got .ok [127, 239, 255, 255] := by decide +kernel
theorem test_win_place_moves : let s := run (.winPlace 7) (serving 0x31#8 (bytes [0, 1, 0, 0, 9, 2, 3]) (shownWindow figuresDef ready))
    (windowAt s 0).definition = some { figuresDef with x := 256, y := 9, z := 2, alpha := 3 } := by decide +kernel
theorem test_win_show_hides :
    (windowAt (run (.winShow 7) (serving 0x32#8 [0#8, 0#8] (shownWindow figuresDef ready))) 0).state = .hidden := by
  decide +kernel
theorem test_win_retire_frees :
    windowAt (run (.winRetire 7) (serving 0x33#8 [0#8] (shownWindow figuresDef ready))) 0 = .free := by decide +kernel
/-- With no record ACTIVE a label is sixteen spaces. -/
theorem test_win_read_text :
    answer (.winRead 7) 0x34#8 [0, 2] (shownWindow figuresDef ready) = got .ok (List.replicate 16 36) := by
  decide +kernel
theorem test_img_write_stops_at_the_end : let s := run (.imgWrite 7) (serving 0x35#8 (bytes [0, 127, 7, 255, 9, 8]) ready)
    reply s = got .ok [1, 4, 0, 0] ∧ imageRead 262143 s.overlay.image = 9#8 ∧ s.overlay.writePtr = 262144 := by
  decide +kernel
theorem test_img_read_reads : answer (.imgRead 7) 0x36#8 [1, 0, 2, 3]
    { ready with overlay := { ready.overlay with image := [(2050, 7#8), (2052, 9#8)] } } = got .ok [7, 0, 9] := by
  decide +kernel

theorem test_WindowRequestsStageEdits_witness :
    (∀ ps s, Serving (serving 0x30#8 ps s) 0x30#8 ps ∧ Serving (serving 0x31#8 ps s) 0x31#8 ps
      ∧ Serving (serving 0x32#8 ps s) 0x32#8 ps ∧ Serving (serving 0x33#8 ps s) 0x33#8 ps
      ∧ Serving (serving 0x43#8 ps s) 0x43#8 ps)
    ∧ firstByte [16#8] = 16 ∧ firstByte [15#8] = 15
    ∧ (let ps := bytes ([0, 3] ++ List.replicate 13 0)
      15 ≤ ps.length ∧ 2 < field ps 1 1)
    ∧ (let ps := bytes ([0, 2] ++ List.replicate 15 0)
      15 ≤ ps.length ∧ field ps 1 1 = 2 ∧ ps.length < 18)
    ∧ (let ps := bytes ([0, 2] ++ List.replicate 12 0 ++ [1, 0, 1, 5])
      18 ≤ ps.length ∧ field ps 1 1 = 2 ∧ 4 < field ps 17 1)
    ∧ (let ps := bytes ([0, 1] ++ List.replicate 12 0 ++ [15])
      15 ≤ ps.length ∧ field ps 1 1 = 1 ∧ field ps 14 1 = 15 ∧ ps.length ≠ 15 + 5 + 4 * 15)
    ∧ (let ps := bytes ([0, 0] ++ List.replicate 12 0 ++ [1, 0, 0, 0, 0])
      ps.length = 15 + 0 + 4 * 1 ∧ field ps 14 1 = 1 ∧ definitionOf ps 15 = none)
    ∧ (definitionOf (bytes solidBytes) 15).isSome = true ∧ (bytes solidBytes).length = 15 + 0 + 4 * field (bytes solidBytes) 14 1
    ∧ (let ps := bytes [0, 16, 0, 15, 255, 0, 0]
      4095 < field ps 1 2 ∧ field ps 3 2 = 4095)
    ∧ field [0#8, 2#8] 1 1 = 2 ∧ field [0#8, 1#8] 1 1 = 1 :=
  ⟨fun _ _ => ⟨rfl, rfl, rfl, rfl, rfl⟩, by decide +kernel⟩
/-- The first fifteen bytes of a WIN_DEFINE of a kind, one pixel at the origin, with one palette colour. -/
def defineBytes (kind : Nat) : List Nat := [0, kind, 0, 0, 0, 0, 0, 1, 0, 1, 0, 16, 1, 255, 1]

/-- An image that ends with image memory, and figures of the last base page with the refresh interval 0. -/
theorem test_WindowDefinitionsAreClamped_witness :
    (definitionOf (bytes solidBytes) 15).isSome = true
    ∧ (definitionOf (bytes (defineBytes 1 ++ [127, 0, 64, 0, 64, 0, 0, 0, 0])) 20).map (·.kind) = some (.image 127 64 64)
    ∧ definitionOf (bytes (defineBytes 1 ++ [127, 0, 64, 0, 65, 0, 0, 0, 0])) 20 = none
    ∧ (definitionOf (bytes (defineBytes 2 ++ [126, 0, 1, 7, 0, 0, 0, 0])) 19).map (·.kind) = some (.figures 126 256 [.label])
    ∧ definitionOf (bytes (defineBytes 2 ++ [127, 0, 1, 7, 0, 0, 0, 0])) 19 = none
    ∧ definitionOf (bytes (defineBytes 2 ++ [126, 0, 1, 8, 0, 0, 0, 0])) 19 = none := by decide +kernel
theorem test_WinReadReportsAWindow_witness : (∀ ps s, Serving (serving 0x34#8 ps s) 0x34#8 ps)
    ∧ field [0#8, 3#8] 1 1 = 3 ∧ (windowAt ready 15).definition = none
    ∧ (windowAt (shownWindow figuresDef ready) 0).definition = some figuresDef
    ∧ figuresDef.kind = .figures 2 5 [.label]
    ∧ (windowAt (shownWindow { figuresDef with kind := .solid } ready) 0).definition = some { figuresDef with kind := .solid }
    ∧ (∀ base refresh sel, WindowKind.solid ≠ .figures base refresh sel)
    ∧ (let d : WindowDef := { figuresDef with kind := .image 127 64 64 }
      (windowAt (shownWindow d ready) 0).definition = some d ∧ d.kind = .image 127 64 64) :=
  ⟨fun _ _ => rfl, by decide, rfl, rfl, rfl, rfl, fun _ _ _ => nofun, rfl, rfl⟩
theorem test_ImgWriteWritesImageMemory_witness : (∀ ps s, Serving (serving 0x35#8 ps s) 0x35#8 ps)
    ∧ (serving 0x35#8 (bytes [1, 2]) ready).ImageLaw
    ∧ field [2#8, 0#8] 0 1 = 2 ∧ (field (bytes [0, 1, 0, 0]) 0 1 = 0 ∧ (bytes [0, 1, 0, 0]).length < 5)
    ∧ (let ps := bytes [0, 127, 8, 0, 1]
      5 ≤ ps.length ∧ field ps 0 1 = 0 ∧ 2047 < field ps 2 2)
    ∧ (let ps := bytes ([0, 127, 7, 255] ++ List.replicate 48 1)
      5 ≤ ps.length ∧ ps.length = 52 ∧ field ps 0 1 = 0 ∧ field ps 1 1 = 127 ∧ field ps 2 2 = 2047)
    ∧ (let ps := bytes ([1] ++ List.replicate 49 1)
      49 < ps.length ∧ field ps 0 1 = 1)
    ∧ (let ps := bytes ([1] ++ List.replicate 48 1)
      ps.length = 49 ∧ field ps 0 1 = 1) :=
  ⟨fun _ _ => rfl, by rfl, by decide +kernel⟩
theorem test_ImgReadReadsImageMemory_witness : (∀ ps s, Serving (serving 0x36#8 ps s) 0x36#8 ps)
    ∧ (let ps := bytes [0, 0, 0, 97]
      ps.length = 4 ∧ 96 < field ps 3 1)
    ∧ (let ps := bytes [127, 7, 255, 96]
      ps.length = 4 ∧ field ps 0 1 = 127 ∧ field ps 1 2 = 2047 ∧ field ps 3 1 = 96)
    ∧ (let ps := bytes [0, 0, 0, 1]
      ps.length = 4 ∧ field ps 3 1 = 1) :=
  ⟨fun _ _ => rfl, by decide, by decide, by decide⟩

/-! ### Requests of the panel port -/

/-- The table of R107: the first row is accepted, and each of the others refused for one relation. -/
theorem test_profile_set_takes_the_first_row :
    let s := run (.profileSet 7) (serving 0x40#8 (bytes
      [0, 15, 0, 8, 112, 0, 19, 136, 0, 31, 64, 30, 32, 31, 202, 5, 21, 49, 89, 0, 3, 232, 1]) ready)
    reply s = got .ok [1] ∧ profileAt s 0 = profileA := by decide +kernel
theorem test_profile_set_refuses_the_other_rows :
    ∀ ps ∈ [
      [0, 15, 0, 8, 112, 0, 19, 136, 0, 31, 64, 30, 32, 15, 66, 64, 13, 187, 160, 0, 3, 232, 1],
      [0, 15, 0, 8, 112, 0, 19, 136, 0, 31, 64, 30, 32, 31, 202, 5, 9, 39, 192, 0, 3, 232, 1],
      [0, 15, 0, 8, 112, 0, 19, 136, 0, 31, 64, 30, 32, 31, 202, 5, 32, 11, 32, 0, 3, 232, 1],
      [0, 15, 0, 8, 112, 0, 31, 64, 0, 19, 136, 30, 32, 31, 202, 5, 21, 49, 89, 0, 3, 232, 1]],
      (answer (.profileSet 7) 0x40#8 ps ready).map Prod.fst = some .badValue := by decide +kernel
theorem test_profile_read_reports : answer (.profileRead 7) 0x41#8 [0] (driving small .freeRun) = got .ok
      ([1, 0, 4, 0, 6, 0, 0, 160, 0, 1, 64, 2, 1, 0, 3, 232, 0, 1, 244, 0, 0, 50, 1, 0, 0, 0, 90, 0, 0, 0, 180, 1,
      0, 1, 0, 0, 0, 0, 0, 0, 0, 0, 0, 0, 0]) := by
  decide +kernel
theorem test_set_fill_clamps :
    (run (.setFill 7) (serving 0x43#8 (bytes [3, 255, 4, 0, 0, 9]) ready)).panel.fill = ⟨1023, 1023, 9⟩ := by
  decide +kernel

theorem test_ProfileSetWritesAProfile_witness : (∀ ps s, Serving (serving 0x40#8 ps s) 0x40#8 ps)
    ∧ firstByte [4#8] = 4 ∧ firstByte [0#8] = 0
    ∧ (let s := driving small .freeRun
      s.panel.current = some 0 ∧ s.pacer.state ≠ .standby ∧ s.pacer.state ≠ .rest)
    ∧ ready.panel.current ≠ some 0
    ∧ (∃ p, profileOf (bytes
      [0, 15, 0, 8, 112, 0, 19, 136, 0, 31, 64, 30, 32, 31, 202, 5, 21, 49, 89, 0, 3, 232, 1]) = some p ∧ profileRelations p = true)
    ∧ profileOf (bytes (List.replicate 23 0)) = none :=
  ⟨fun _ _ => rfl, by decide, by decide, ⟨rfl, nofun, nofun⟩, nofun, ⟨profileA, by decide +kernel⟩, by decide +kernel⟩
theorem test_ProfileReadReportsTheProfile_witness : (∀ ps s, Serving (serving 0x41#8 ps s) 0x41#8 ps)
    ∧ firstByte [4#8] = 4 ∧ firstByte [3#8] = 3 := ⟨fun _ _ => rfl, by decide, by decide⟩

/-! ### The pixel input -/

/-- The presentation of `live`, with a source line and a source frame. -/
def watch (l : Option SourceLine) (f : SourceFrame) : State :=
  { live with mon := { live.mon with line := l, frame := some f } }

/-- A blank source line. -/
def blankLine : SourceLine := freshLine

/-- The store with two slots and an entry for the frame that started at 0. -/
def storing (s : State) : State := { s with store := { slots := [.empty, .empty], entries := [entry0] } }

/-- The candidate of 1,920 by 1,080, at the end of another frame. -/
def candidate (st : MonState) (f : SourceFrame) : State :=
  { stocked with mon := { stocked.mon with state := st, obs := seen, frame := some f, line := some blankLine } }

/-- `live` with a last launch whose earliest next launch is at a time. -/
def lastUntil (e : Nat) : State :=
  { live with pacer := { live.pacer with last := some { time := e - 90, kind := .redraw, reason := .predicted, spacing := 90 } } }

/-- Live after a launch at tick 1,000 of the spacing given; the profile's Tmax is 1,000. -/
def spacedBy (n : Nat) : State :=
  { live with pacer := { live.pacer with last := some { time := 1000, kind := .redraw, reason := .predicted, spacing := n } } }

theorem test_frame_presented :
    let s := run (.sourceFrameStart 2000 true .full .d8 false false) live
    s.pacer.pending = some ⟨2100, smallPlan, 0, none⟩ ∧ s.store.entries = [{ entry0 with start := 2000 }] := by
  decide +kernel
theorem test_frame_deferred_and_frame_skipped :
    (run (.sourceFrameStart 2000 true .full .d8 false false) (lastUntil 2150)).pacer.pending
        = some ⟨2150, smallPlan, 50, some .collision⟩
      ∧ (let s := run (.sourceFrameStart 2000 true .full .d8 false false) (lastUntil 2151)
        s.pacer.pending = none ∧ s.cat.map (·.stats.skipped) = [1] ∧ s.ev.flags = 0x0080#16) := by decide +kernel
theorem test_second_frame_settles_and_activates :
    let s := run (.lineStart 30000) (candidate .candidate (frameOf 1080 false))
    s.mon.state = .settled ∧ s.ev.flags = 0x000A#16 ∧ s.pacer.state = .live ∧ s.cat.map (·.state) = [.free, .active] := by
  decide +kernel
theorem test_short_line_is_a_change :
    let s := run (.lineStart 30000) (watch (some (lineOf 1919)) (frameOf 5 false))
    s.mon.state = .candidate ∧ s.cat.map (·.state) = [.ready] ∧ s.pacer.state = .hold := by decide +kernel
theorem test_active_line_takes_a_slot :
    let s := run (.activeLineStart 600 true) (storing (watch (some blankLine) (frameOf 0 false)))
    s.store.slots = [⟨.filling, .a, 0, 0, []⟩, .empty] ∧ s.mon.frame.map (·.slead) = some 600 := by decide +kernel
theorem test_pixels_widen_and_stop_at_the_width :
    let s0 := storing (watch (some (lineOf 0)) (frameOf 1 false))
    let s := run (.pixelTransfer 700 (some ⟨0x3FF#10, 0x200#10, 0x003#10⟩) none (some ⟨0#10, 4#10, 0#10⟩) (some ⟨8#10, 0#10, 0#10⟩))
      { s0 with store := { s0.store with slots := [⟨.filling, .a, 0, 0, []⟩] } }
    s.store.slots = [⟨.filling, .a, 0, 2, [⟨1023, 514, 0⟩, ⟨0, 4, 0⟩]⟩] ∧ s.mon.line.map (·.width) = some 3 := by
  decide +kernel
theorem test_line_complete_holds_the_slot :
    let s0 := storing (watch (some (lineOf 2)) (frameOf 1 false))
    (run (.lineComplete 700) { s0 with store := { s0.store with slots := [⟨.filling, .a, 0, 0, []⟩] } }).store.slots
      = [⟨.held, .a, 0, 0, []⟩] := by decide +kernel
/-- A line start taken before the fall of data-enable leaves the line to be completed by it. -/
theorem test_line_complete_after_the_line_start :
    let s0 := storing (watch (some (lineOf 2)) (frameOf 1 false))
    (run (.lineComplete 700) (run (.lineStart 700) { s0 with
        mon := { s0.mon with state := .measuring }
        store := { s0.store with slots := [⟨.filling, .a, 0, 2, []⟩] } })).store.slots.map (·.state) = [.held] := by
  decide +kernel
/-- A slot taken again keeps its former pixels, and a line of one pixel leaves the second as it was. -/
theorem test_former_pixels_stay :
    let s0 := storing (watch (some blankLine) (frameOf 0 false))
    (run (.pixelTransfer 700 (some ⟨0#10, 0#10, 0#10⟩) none none none) (run (.activeLineStart 600 true) { s0 with
        store := { s0.store with slots := [⟨.free, .b, 1, 2, [⟨7, 8, 9⟩, ⟨11, 12, 13⟩]⟩] } })).store.slots
      = [⟨.filling, .a, 0, 1, [⟨0, 0, 0⟩, ⟨11, 12, 13⟩]⟩] := by decide +kernel
theorem test_signal_ok_fall_is_a_loss : let s := run (.signalOkFall 700) live
    s.mon.state = .noSignal ∧ s.mon.lossLatch = true ∧ s.ev.flags = 0x0004#16 ∧ s.pacer.holdTimer = .running 50000700 := by
  decide +kernel
theorem test_frame_start_timer_is_a_loss :
    let s := run .frameStartTimerExpiry { live with mon := { live.mon with timer := some 10000100 } }
    s.mon.state = .noSignal ∧ s.now = 10000100 := by decide +kernel

theorem test_SignalAppears_witness : ClearedInNoSignal ready ∧ ready.mon.state = .noSignal ∧ ready.ctl.phase = .ready
    ∧ ready.pacer.state ≠ .live ∧ ClearedInNoSignal State.reset ∧ State.reset.ctl.phase = .starting :=
  ⟨fun _ => rfl, rfl, rfl, nofun, fun _ => rfl, rfl⟩

/-- The lag of a frame that starts at tick 2,000 after a last launch. -/
def lagAt (s : State) : Nat :=
  ((decidingLaunch 2100 90 [] (scheduled [] { s with now := 2000 })).map fun l => l.time + l.spacing - 2100).getD 0

theorem test_LaunchDecision_witness :
    (live.ctl.phase = .ready ∧ live.mon.state = .settled ∧ live.mon.frame = some (frameOf 1080 true)
      ∧ (frameOf 1080 true).ended = true ∧ live.pacer.state = .live ∧ live.plan = some smallPlan
      ∧ live.pacer.pending = none ∧ live.pacer.tracking = .noSwitch)
    ∧ lagAt (lastUntil 2150) = smallPlan.limit ∧ smallPlan.limit < lagAt (lastUntil 2151)
    ∧ (some (⟨2100, smallPlan, 0, none⟩ : PendingLaunch)) ≠ none ∧ 2100 ≤ 2000 + smallPlan.w ∧ 2000 + smallPlan.w < 2101 := by
  decide +kernel
theorem test_DecidingLaunchAndPredictions_witness :
    let s := lastUntil 1090
    let x : SchedEntry := ⟨1090, .predicted, .redraw⟩
    (∀ l, s.pacer.last = some l → l.time + (currentProfile s).tmax < s.now ∨ 1999 < l.time + (currentProfile s).tmax
        ∨ (currentProfile s).tmax < l.spacing)
    ∧ (∃ l, (spacedBy 1001).pacer.last = some l ∧ (currentProfile (spacedBy 1001)).tmax < l.spacing)
    ∧ (1090 < x.time + (currentProfile s).tmax ∧ (∀ l, s.pacer.last = some l → l.time + l.spacing ≤ x.time
        ∧ (l.time + (currentProfile s).tmax < s.now ∨ x.time ≤ l.time + (currentProfile s).tmax
          ∨ (currentProfile s).tmax < l.spacing)) ∧ s.now ≤ x.time ∧ x.time ≤ 1090)
    ∧ (∃ l, s.pacer.last = some l ∧ l.spacing ≤ (currentProfile s).tmax ∧ s.now ≤ l.time + (currentProfile s).tmax ∧ l.time + (currentProfile s).tmax ≤ 2000
        ∧ 2999 < l.time + 2 * (currentProfile s).tmax)
    ∧ s.mon.periods = [] ∧ { s.mon with periods := [2500] }.periods ≠ [] := by
  intro s x
  refine ⟨?_, ⟨_, rfl, by decide +kernel⟩, ⟨by decide +kernel, ?_, by decide +kernel⟩, ⟨_, rfl, by decide +kernel⟩, rfl, nofun⟩
  · rintro l ⟨⟩
    right; left
    decide +kernel
  · rintro l ⟨⟩
    decide +kernel
theorem test_LineStartAndFrameEnd_witness :
    let active := watch (some (lineOf 1920)) (frameOf 5 false)
    let short : SourceFrame := { frameOf 1079 false with regular := false }
    (State.reset.ctl.phase = .starting ∧ ready.mon.state = .noSignal)
    ∧ ((watch none (frameOf 5 false)).mon.line = none ∧ live.ctl.phase = .ready ∧ live.mon.state ≠ .noSignal)
    ∧ (active.mon.line = some (lineOf 1920) ∧ (lineOf 1920).active = true
        ∧ ¬(active.mon.state = .settled ∧ (lineOf 1920).width < active.mon.obs.width))
    ∧ (blankLine.active = false ∧ (frameOf 0 false).lines = 0 ∧ (frameOf 1080 true).ended = true)
    ∧ ((candidate .measuring short).ctl.phase = .ready ∧ (candidate .measuring short).mon.line = some blankLine
        ∧ (candidate .measuring short).mon.frame = some short ∧ 0 < short.lines ∧ short.ended = false ∧ short.regular = false)
    ∧ ((frameOf 1080 false).regular = true ∧ (takenIn (frameOf 1080 false) seen).width = seen.width
        ∧ (takenIn (frameOf 1080 false) seen).height = seen.height ∧ (frameOf 1080 false).format = seen.format
        ∧ (frameOf 1080 false).depth = seen.depth ∧ (frameOf 1080 false).vrr = seen.vrr
        ∧ near ({ frameOf 1080 false with ls := 23708 } : SourceFrame).ls seen.ls
        ∧ ¬near ({ frameOf 1080 false with ls := 23709 } : SourceFrame).ls seen.ls)
    ∧ (stocked.pacer.state ≠ .rest ∧ seen.height ≤ min (frameOf 1080 false).lines 4095)
    ∧ (let s : State := { candidate .candidate (frameOf 1080 false) with pacer := (driving small .rest).pacer }
      s.pacer.state = .rest ∧ s.pacer.wakeOnSource = true ∧ (currentProfile s).valid = true
        ∧ { s.pacer with wakeOnSource := false }.wakeOnSource = false ∧ (currentProfile (driving .invalid .rest)).valid = false)
    ∧ awaiting active.mon.line = [⟨0, 0⟩] := by
  unfold near
  decide +kernel
theorem test_ActiveLineStartMeasuresAndStores_witness :
    let s := storing (watch (some blankLine) (frameOf 0 false))
    (s.ctl.phase = .ready ∧ s.mon.state ≠ .noSignal ∧ s.mon.line = some blankLine ∧ blankLine.active = false
      ∧ s.mon.frame = some (frameOf 0 false) ∧ ¬(s.mon.obs.height ≤ 0 ∨ (0 : Nat) = 16))
    ∧ entryOf 0 (watch (some blankLine) (frameOf 0 false)).store = none
    ∧ (entryOf 0 s.store = some entry0 ∧ entry0.storing = true ∧ 1 < entry0.plan.hin ∧ entry0.plan.hin ≤ 2)
    ∧ (s.store.slots = [] ++ .empty :: [.empty] ∧ LineSlot.empty.state = .free)
    ∧ (∀ y ∈ [(⟨.held, .a, 0, 0, []⟩ : LineSlot)], y.state ≠ .free) := by decide +kernel
theorem test_PixelsAndLineComplete_witness :
    let s := storing (watch (some (lineOf 1919)) (frameOf 1 false))
    (s.ctl.phase = .ready ∧ s.mon.state ≠ .noSignal ∧ s.mon.line = some (lineOf 1919) ∧ (lineOf 1919).active = true
      ∧ ¬(s.mon.state = .settled ∧ s.mon.obs.width < (lineOf 1919).width + 1))
    ∧ (lineOf 1919).complete = false ∧ { lineOf 1919 with complete := true }.complete = true
    ∧ entryOf 0 (watch (some (lineOf 1919)) (frameOf 1 false)).store = none
    ∧ entryOf 0 s.store = some entry0 ∧ entry0.mode = .live ∧ { entry0 with mode := .fillOut }.mode = .fillOut := by
  decide +kernel

theorem activeAt_watch (l : Option SourceLine) (f : SourceFrame) (i : Nat) : (watch l f).ActiveAt i ↔ i = 0 := by
  cases i <;> simp [State.ActiveAt, recordAt, watch, live, activeRec, ModeRecord.free]

/-- The presentation meets the law of the ACTIVE record. -/
theorem activeLaw_watch (l : Option SourceLine) (f : SourceFrame) : (watch l f).ActiveLaw := by
  refine ⟨fun i j hi hj => ?_, fun i hi => ?_, fun _ => ⟨0, (activeAt_watch l f 0).mpr rfl⟩⟩
  · rw [(activeAt_watch l f i).mp hi, (activeAt_watch l f j).mp hj]
  · rw [(activeAt_watch l f i).mp hi]
    exact ⟨rfl, rfl, rfl, rfl⟩

theorem test_ChangeEndsThePresentation_witness :
    (∀ l f, (watch (some l) f).ActiveLaw ∧ (watch (some l) f).ctl.phase = .ready
      ∧ (watch (some l) f).mon.state = .settled ∧ (watch (some l) f).mon.line = some l
      ∧ (watch (some l) f).mon.frame = some f ∧ (watch (some l) f).mon.obs = seen)
    ∧ ((lineOf 1919).active = true ∧ (lineOf 1919).width < seen.width)
    ∧ (blankLine.active = false ∧ (frameOf 1079 false).ended = false ∧ 0 < (frameOf 1079 false).lines
        ∧ min (frameOf 1079 false).lines 4095 < seen.height)
    ∧ seen.height ≤ (frameOf 1080 false).lines
    ∧ ((frameOf 16 false).lines = 16
        ∧ ¬near (min (max live.now 24209 - (frameOf 16 false).line0At) 1048575) seen.ls)
    ∧ ((lineOf 1920).active = true ∧ seen.width < (lineOf 1920).width + [(⟨0#10, 0#10, 0#10⟩ : RawPixel)].length)
    ∧ ((frameOf 1080 true).ended = true ∧ ¬(Format.half = seen.format ∧ Depth.d8 = seen.depth ∧ false = seen.vrr)) :=
  ⟨fun l f => ⟨activeLaw_watch _ _, rfl, rfl, rfl, rfl, rfl⟩, by decide, by decide, by decide, by unfold near; decide,
    by decide, by decide⟩
theorem test_LossClearsTheMonitor_witness :
    (ready.mon.state = .noSignal ∧ State.reset.ctl.phase = .starting)
    ∧ (live.mon.state ≠ .noSignal ∧ live.ctl.phase = .ready ∧ (∃ r ∈ live.cat, r.state = .active)
      ∧ 0 < live.pacer.holdTime ∧ (currentProfile live).redraw = true)
    ∧ { live.pacer with holdTime := 0 }.holdTime = 0
    ∧ (∀ r ∈ (candidate .measuring (frameOf 5 false)).cat, r.state ≠ .active)
    ∧ { live.mon with timer := some 5 }.timer = some 5
    ∧ (let s := storing { live with pacer := { live.pacer with pending := some ⟨2100, smallPlan, 0, none⟩ } }
      s.pacer.pending.isSome = true ∧ s.store.entries.find? (fun e => e.phase == .decided) = some entry0) := by
  decide +kernel
/-- A loss cancels the pending launch: the frame is counted as skipped and its slots and entry go. -/
theorem test_loss_withdraws_the_decided_frame :
    let s0 := storing { live with pacer := { live.pacer with pending := some ⟨2100, smallPlan, 0, none⟩ } }
    let s := run (.signalOkFall 700) { s0 with store := { s0.store with slots := [⟨.filling, .a, 0, 0, []⟩] } }
    s.ev.flags = 0x0084#16 ∧ s.cat.map (·.stats.skipped) = [1] ∧ s.store = ⟨[⟨.free, .a, 0, 0, []⟩], []⟩ := by
  decide +kernel

/-! ### Launches and timers -/

/-- `live` with a live launch pending and its frame's entry decided. -/
def pendingLive : State :=
  let s := storing live
  { s with pacer := { s.pacer with pending := some ⟨2100, smallPlan, 0, none⟩ } }

/-- A state with one entry in its schedule. -/
def withEntry (x : SchedEntry) (s : State) : State := { s with pacer := { s.pacer with schedule := [x] } }

/-- A state whose last launch was at tick 1,000, with the deadline armed. -/
def armed (s : State) : State :=
  { s with pacer := { s.pacer with
      last := some { time := 1000, kind := .generated, reason := .periodic, spacing := 90 }, deadline := some 2000 } }

/-- A switch in progress until tick 500. -/
def switching : State :=
  let s := driving small .freeRun
  { s with
    panel := { s.panel with state := .switching, phase := .switching 500 }
    pacer := { s.pacer with tracking := .switching 500 } }

theorem test_live_launch : let s := run .liveLaunch pendingLive
    s.panel.state = .lead ∧ s.panel.out.frameMarkers = 1 ∧ s.pacer.last = some ⟨2100, .live, .live, 90⟩
      ∧ s.cat.map (·.stats.presented) = [1] ∧ s.store.entries.map (·.phase) = [.scanning] := by decide +kernel
theorem test_predicted_redraw : let s := run .predictedRedraw (withEntry ⟨3000, .predicted, .redraw⟩ live)
    s.panel.out.redrawMarker = true ∧ s.cat.map (·.stats.predicted) = [1] ∧ s.pacer.schedule = [] := by decide +kernel
theorem test_periodic_launch :
    let s := run .periodicLaunch (withEntry ⟨3000, .periodic, .generated⟩ (driving small .freeRun))
    s.pacer.last = some ⟨3000, .generated, .periodic, 90⟩ ∧ s.pacer.schedule = [⟨3500, .periodic, .generated⟩]
      ∧ s.pacer.deadline = none := by decide +kernel
theorem test_forced_deadline : let s := run .forcedDeadline (armed (driving small .hold))
    s.pacer.last = some ⟨2000, .redraw, .forced, 90⟩ ∧ s.pacer.lastInterval = some 1000 := by decide +kernel
theorem test_hold_timer_expiry :
    let s0 := driving small .hold
    let s := run .holdTimerExpiry { s0 with pacer := { s0.pacer with holdTimer := .running 5000 } }
    s.pacer.state = .freeRun ∧ s.pacer.schedule = [⟨5000, .periodic, .generated⟩] := by decide +kernel
theorem test_rest_timer_expiry :
    let s0 := driving small .freeRun
    let s := run .restTimerExpiry { s0 with pacer := { s0.pacer with restTimer := .running 6000 } }
    s.pacer.state = .rest ∧ s.panel.state = .idle ∧ s.ev.flags = 0x1000#16 := by decide +kernel

theorem test_LiveLaunchIsMade_witness : pendingLive.pacer.pending = some ⟨2100, smallPlan, 0, none⟩
    ∧ (∀ e, pendingLive.panel.phase ≠ .switching e)
    ∧ { pendingLive.panel with phase := .switching 2100 }.phase = .switching 2100 := ⟨rfl, fun _ => nofun, rfl⟩
theorem test_OtherLaunchesAreMadeOrDropped_witness :
    (withEntry ⟨1089, .periodic, .generated⟩ (armed live)).pacer.schedule = ⟨1089, .periodic, .generated⟩ :: []
    ∧ (∃ l, (armed live).pacer.last = some l ∧ 1089 < l.time + l.spacing)
    ∧ (∀ l, (armed live).pacer.last = some l → l.time + l.spacing ≤ 1090)
    ∧ (armed live).pacer.deadline = some 2000 ∧ (armed live).pacer.state ∈ [PacerState.live, .hold, .freeRun]
    ∧ (switching.panel.phase = .switching 500 ∧ switching.pacer.state ∈ [PacerState.freeRun, .hold]
      ∧ switching.pacer.schedule = []) :=
  ⟨rfl, ⟨_, rfl, by decide⟩, by rintro l ⟨⟩; decide, rfl, by decide +kernel, rfl, by decide +kernel, rfl⟩
/-- The periodic launch at a switch end, taken before it. -/
theorem test_periodic_launch_ends_the_switch : let s := run .periodicLaunch switching
    s.panel.state = .lead ∧ s.panel.phase = .noSwitch ∧ s.pacer.last = some ⟨500, .generated, .periodic, 90⟩
      ∧ s.pacer.schedule = [⟨1000, .periodic, .generated⟩] := by decide +kernel
theorem test_HoldAndRestTimersExpire_witness :
    (∃ s : State, s.pacer.state = .hold ∧ s.pacer.holdTimer = .running 5000)
    ∧ ∃ s : State, s.pacer.state = .freeRun ∧ s.pacer.restTimer = .running 6000 :=
  ⟨⟨let s := driving small .hold; { s with pacer := { s.pacer with holdTimer := .running 5000 } }, rfl, rfl⟩,
    ⟨let s := driving small .freeRun; { s with pacer := { s.pacer with restTimer := .running 6000 } }, rfl, rfl⟩⟩

/-! ### The panel frame -/

/-- A LIVE scan of two stored source lines. -/
def liveScan (next : Nat) (mode : PictureMode) : State :=
  let s := scanning .live next .scan
  { s with store := {
      slots := [⟨.held, .a, 0, 2, [⟨7, 8, 9⟩, ⟨11, 12, 13⟩]⟩, ⟨.held, .a, 1, 0, []⟩]
      entries := [{ entry0 with phase := .scanning, begun := 2, mode := mode }] } }

/-- A window two pixels wide at half strength over the part fill colour. -/
theorem test_generated_line_merges_a_window :
    let s0 := shownWindow { figuresDef with kind := .solid, x := 1, y := 0, w := 2, h := 1, alpha := 8,
                                            palette := [⟨100, 200, 300⟩] } (scanning .generated 0 .lead)
    let s := run .panelLineStart { s0 with panel := { s0.panel with fill := ⟨10, 20, 30⟩ } }
    s.panel.out.line = [⟨10, 20, 30⟩, ⟨55, 110, 165⟩, ⟨55, 110, 165⟩, ⟨10, 20, 30⟩] ∧ s.now = 1020 := by decide +kernel
theorem test_live_line_shows_the_stored_line :
    (run .panelLineStart (liveScan 1 .live)).panel.out.line = [⟨1, 2, 3⟩, ⟨7, 8, 9⟩, ⟨11, 12, 13⟩, ⟨1, 2, 3⟩] := by
  decide +kernel
theorem test_scan_end_applies_the_stage :
    let s0 := liveScan 6 .live
    let s := run .scanEnd { s0 with stage := { edits := [.setFill ⟨4, 5, 6⟩], groupOpen := false } }
    s.panel.state = .trail ∧ s.panel.fill = ⟨4, 5, 6⟩ ∧ s.ev.flags = 0x0040#16 ∧ s.store.entries = [] ∧ s.now = 1080 := by
  decide +kernel
theorem test_trail_end_leaves_blank : let s := run .trailEnd (scanning .generated 6 .trail)
    s.panel.state = .blank ∧ s.panel.frame = none ∧ s.now = 1090 := by decide +kernel

theorem test_switch_end_schedules_a_launch : let s := run (.switchEnd true) switching
    s.panel.state = .blank ∧ s.panel.blankPeriod = 160 ∧ s.pacer.tracking = .noSwitch
      ∧ s.pacer.schedule = [⟨500, .periodic, .generated⟩] := by decide +kernel

theorem test_PanelLineIsFormed_witness :
    (∀ kind next, (scanning kind next .scan).panel.state = .scan ∧ (scanning kind next .lead).panel.state = .lead
      ∧ (scanning kind next .scan).panel.frame = some (panelFrame kind next) ∧ (panelFrame kind next).kind = kind)
    ∧ (panelFrame .live 5).nextLine < (panelFrame .live 5).hp
    ∧ scanningEntry (scanning .live 0 .scan).store = none
    ∧ (∃ e, scanningEntry (liveScan 1 .live).store = some e ∧ e.mode = .live ∧ e.plan.yoff = 1
        ∧ e.plan.yoff + e.plan.hout = 3
        ∧ ∀ tap ∈ [0, 0, 1, 1], tapState e (liveScan 1 .live).store.slots tap ≠ .notArrived)
    ∧ (∃ e, scanningEntry (liveScan 2 .fillOut).store = some e ∧ e.mode = .fillOut)
    ∧ tapState { entry0 with begun := 1 } [] 1 = .notArrived :=
  ⟨fun _ _ => ⟨rfl, rfl, rfl, rfl⟩, by decide, rfl, ⟨_, rfl, by decide +kernel⟩, ⟨_, rfl, rfl⟩, by decide +kernel⟩
theorem test_ScanAndTrailEnd_witness :
    (scanning .live 6 .scan).panel.frame = some (panelFrame .live 6) ∧ (scanning .live 6 .scan).panel.state = .scan
    ∧ (scanning .live 6 .trail).panel.state = .trail ∧ (scanning .live 6 .trail).panel.phase = .noSwitch
    ∧ (scanning .live 6 .trail).panel.stopPending = false
    ∧ ∀ b, { (scanning .live 6 .trail).panel with phase := .pending b, stopPending := b }.phase = .pending b :=
  ⟨rfl, rfl, rfl, rfl, rfl, fun _ => rfl⟩
theorem test_SwitchEnds_witness : switching.panel.phase = .switching 500 ∧ switching.stage.edits = []
    ∧ (staging .freeRun false).stage.groupOpen = false ∧ (staging .freeRun false).stage.edits ≠ [] :=
  ⟨rfl, rfl, rfl, nofun⟩

/-! ### The shared operations -/

/-- A settled source and a full catalogue: slot 0 names an INVALID profile, slot 1 profile 0. -/
def searching (p : Profile) : State :=
  let s := driving p .freeRun
  { s with
    mon := { s.mon with state := .settled, obs := seen }
    cat := [{ readyRecord with content := some { anyContent with present := { anyContent.present with profile := 2 } } },
        readyRecord] ++ List.replicate 46 .free }

theorem test_lookup_passes_over_the_unfit_record : let s := requestLookup (searching profileB)
    (recordAt s 0).fit = .unfit .profile ∧ (recordAt s 1).state = .active ∧ (recordAt s 1).stats.activations = 1
      ∧ s.pacer.state = .live := by decide +kernel
theorem test_LookupActivatesTheFirstThatFits_witness :
    (∀ p ∈ [profileA, profileB], let s := searching p
      s.mon.state = .settled ∧ s.pacer.state = .freeRun ∧ (∀ r ∈ s.cat, r.state ≠ .active) ∧ s.cat.length = 48
        ∧ candidates s.cat s.mon.obs = [0] ++ 1 :: [])
    ∧ candidates State.reset.cat seen = [] ∧ State.reset.mon.state ≠ .settled
    ∧ planSlot 0 seen (searching profileB) = .unfit .profile
    ∧ planSlot 1 seen (searching profileB) = .fit (figuresOf 1 1920 1080 23704 60000 anyContent profileB 3840 2160 0 0)
    ∧ planSlot 0 seen (searching profileA) = .unfit .profile ∧ planSlot 1 seen (searching profileA) = .unfit .depth := by
  decide +kernel
theorem test_EditsAreCarriedOut_witness :
    ((recordAt stocked 0).state = .free ∧ (recordAt stocked 1).state = .ready ∧ (recordAt live 0).state = .active)
    ∧ (live.mon.state = .settled ∧ live.mon.obs.outOfRange = false ∧ keyMatches anyContent.key live.mon.obs = true
      ∧ planContent 0 anyContent live.mon.obs live = .unfit .ratio)
    ∧ keyMatches { anyContent.key with width := some 64 } live.mon.obs = false
    ∧ (let s : State := { live with panel := (driving profileB .live).panel }
      (recordAt s 0).state = .active ∧ planContent 0 anyContent s.mon.obs s
        = .fit (figuresOf 0 1920 1080 23704 60000 anyContent profileB 3840 2160 0 0))
    ∧ ((windowAt ready 0).state = .free ∧ (windowAt (shownWindow figuresDef ready) 0).state ≠ .free
      ∧ (windowAt (shownWindow figuresDef ready) 0).definition = some figuresDef)
    ∧ (ready.mon.periods = [] ∧ 0 < [833333].sum / [833333].length ∧ ready.pacer.lastInterval = none
      ∧ { ready.pacer with lastInterval := some 0 }.lastInterval = some 0 ∧ (99999999 : Nat) < 100000000) := by
  refine ⟨by decide, by decide +kernel, by decide, by decide +kernel, ⟨by decide, by decide, rfl⟩, rfl, by decide, rfl,
    rfl, by decide⟩
theorem test_ApplicationsTakeTheListInOrder_witness :
    let s : State := { driving small .hold with overlay :=
      { ready.overlay with windows := [⟨.hidden, some figuresDef, 0, [], 0⟩] } }
    (s.pacer.state = .hold ∧ (windowAt s 0).state = .hidden ∧ 0 < s.overlay.windows.length
        ∧ Some_ shows [.winShow 0 true] s ∧ (applyEdit (.winShow 0 true) s).pacer.state = .hold)
    ∧ (let c := searching profileB
      Some_ (fun e _ => ∃ slot, ofSlot e slot) [.catRetire 0] c ∧ c.mon.state = .settled
        ∧ (∀ r ∈ (applyEdit (.catRetire 0) c).cat, r.state ≠ .active))
    ∧ (¬Some_ (fun e _ => ∃ slot, ofSlot e slot) [.setFill ⟨1, 2, 3⟩] live ∧ ¬Some_ shows [.setFill ⟨1, 2, 3⟩] live)
    ∧ (Some_ (fun e a => ∃ slot, ofSlot e slot ∧ (recordAt a slot).state = .active) [.catRetire 0] live
      ∧ (∃ r ∈ live.cat, r.state = .active)) := by
  refine ⟨⟨rfl, rfl, by decide, .inl ⟨0, .inr (.inr (.inl ⟨true, rfl⟩)), .inr rfl⟩, rfl⟩,
    ⟨.inl ⟨0, .inr rfl⟩, rfl, by decide +kernel⟩, ⟨?_, ?_⟩, .inl ⟨0, .inr rfl, rfl⟩, by decide⟩
  · simp [Some_, ofSlot]
  · simp [Some_, shows]
theorem test_SwitchRequestsAndStops_witness :
    ((driving small .live).panel.phase = .noSwitch ∧ (driving small .live).panel.state ∈ [PortState.idle, .blank])
    ∧ ((scanning .live 0 .lead).panel.phase = .noSwitch ∧ (scanning .live 0 .lead).panel.state ∈ [PortState.lead, .scan, .trail])
    ∧ (∀ b, { live.panel with phase := .pending b }.phase = .pending b) ∧ switching.panel.phase = .switching 500
    ∧ (ready.panel.phase = .noSwitch ∧ ready.panel.state = .idle) ∧ live.panel.state = .blank
    ∧ (let s : State := { live with panel := { live.panel with phase := .pending true } }
      s.panel.phase = .pending true ∧ s.panel.frame = none ∧ s.panel.current = some 0)
    ∧ (let s : State := scanning .live 0 .lead
      { s.panel with phase := .pending true }.phase = .pending true ∧ s.panel.frame ≠ none ∧ s.panel.phase ≠ .pending true) :=
  ⟨⟨rfl, by decide⟩, ⟨rfl, by decide⟩, fun _ => rfl, rfl, ⟨rfl, rfl⟩, rfl, ⟨rfl, rfl, rfl⟩, rfl, nofun, nofun⟩
/-- A stop withdraws the launch to come: with no frame the waiting switch begins at once. -/
theorem test_stop_withdraws_the_launch_to_come :
    let s := portStop { live with panel := { live.panel with phase := .pending true } }
    s.panel.phase = .switching 150 ∧ s.panel.stopPending = true ∧ s.pacer.tracking = .switching 150 := by decide +kernel
/-- A deadline armed, at e too; one before e not armed; and a rest timer running. -/
theorem test_DeadlineArmsAndRestTimerRuns_witness :
    (settlePacer (lastUntil 1090)).pacer.deadline = some 2000
    ∧ (settlePacer (spacedBy 1000)).pacer.deadline = some 2000 ∧ (settlePacer (spacedBy 1001)).pacer.deadline = none
    ∧ (let s := driving small .freeRun
      (settlePacer { s with pacer := { s.pacer with restTimer := .paused 30, restTime := 1 } }).pacer.restTimer = .running 30) := by
  decide +kernel
theorem test_FitPlansKeepTheirBounds_witness :
    planFor 1 1920 1080 23704 60000 anyContent profileB
      = .fit (figuresOf 1 1920 1080 23704 60000 anyContent profileB 3840 2160 0 0) := by decide +kernel
/-- Depth 8 widened, a flat picture filtered, and a blend at half strength. -/
theorem test_ComponentsStayInRange_witness :
    widen .d8 0x3FF#10 = 1023 ∧ filterTaps 8 1023 1023 1023 1023 = 1023 ∧ filterTaps 8 0 1023 1023 0 = 1023
      ∧ filterTaps 8 1023 0 0 1023 = 0 ∧ blendComponent 16 1023 0 = 1023 ∧ (16 ≤ 16 ∧ (1023 : Nat) ≤ 1023) := by decide
/-- A tap held, one not arrived and one lost with held lines below and above it; lines read inside and beyond their pixels. -/
theorem test_PicturePixelRules_witness :
    let e := { entry0 with begun := 3 }
    let below : LineSlot := ⟨.held, .a, 0, 1, [⟨7, 8, 9⟩, ⟨11, 12, 13⟩]⟩
    let above : LineSlot := ⟨.held, .a, 2, 0, [⟨7, 8, 9⟩]⟩
    weightTable[15]? = some (0, 3, 63, -2) ∧ tapState e [below, above] 0 = .held ∧ tapState e [below, above] 3 = .notArrived
      ∧ tapState e [below, above] 1 = .lost ∧ tapState e [above] 1 = .lost ∧ tapSource e [below, above] 1 = some below
      ∧ tapSource e [above] 1 = some above ∧ below.written ≤ below.pixels.length
      ∧ tapPixel ⟨1, 2, 3⟩ (some below) 1 = ⟨7, 8, 9⟩ ∧ tapPixel ⟨1, 2, 3⟩ (some above) 0 = ⟨1, 2, 3⟩ := by decide +kernel
theorem test_WindowPixelRules_witness :
    figuresDef.kind = .figures 2 5 [.label] ∧ [List.replicate 16 36][15 / 16]? = some (List.replicate 16 36)
      ∧ (List.replicate 16 36)[127 / 8]? = some 36 ∧ 16 ≤ 128 / 8 ∧ (110 : Nat) ≤ 110
      ∧ windowPixel [] { figuresDef with kind := .solid } [] 0 0 = some ⟨1, 2, 3⟩
      ∧ windowPixel [] figuresDef [List.replicate 16 36] 0 0 = none := by decide +kernel
/-- Eight pixels make two transfers, and what follows them has every component at 0. -/
theorem test_transfers :
    let px := fun (n : Nat) => (⟨n, 0, 1023⟩ : Colour)
    let o : PanelOut := { State.reset.panel.out with dataEnable := true, line := (List.range 8).map px }
    o.dataEnable = true ∧ 4 * 1 + 4 ≤ o.line.length ∧ o.transfer 1 = ⟨true, px 4, px 5, px 6, px 7⟩
      ∧ o.transfer 2 = ⟨false, ⟨0, 0, 0⟩, ⟨0, 0, 0⟩, ⟨0, 0, 0⟩, ⟨0, 0, 0⟩⟩ ∧ o.low.transfer 0 = o.transfer 2 := by decide
theorem test_WindowsAreRanked_witness :
    let s := shownWindow { figuresDef with z := 15, binding := some 0 } live
    (∀ w ∈ s.overlay.windows, ∀ d ∈ w.definition, d.z ≤ 15) ∧ rankedWindows s 4 9 = [] ∧ rankedWindows s 11 20 = [0]
      ∧ rankedWindows s 11 69 = [0] ∧ rankedWindows s 11 70 = [] ∧ rankedWindows s 10 20 = []
      ∧ (let t : State := { live with overlay :=
            { live.overlay with windows := List.replicate 16 ⟨.shown, some { figuresDef with z := 15 }, 0, [], 0⟩ } }
        t.overlay.windows.length = 16 ∧ droppedWindows t 11 20 = [11, 10, 9, 8, 7, 6, 5, 4, 3, 2, 1, 0]) := by decide +kernel

/-! ### The laws every step keeps -/

theorem test_StepKeepsActiveLaw_witness :
    let s : State := { watch (some blankLine) (frameOf 5 false) with pending := [.csnSeenHigh 5] }
    s.ActiveLaw ∧ ∃ s', step s = .next s' := ⟨activeLaw_watch _ _, _, rfl⟩
theorem test_StepKeepsBoundsLaw_witness :
    let s : State := { fullOf 8 with pending := [.fetch 5 .fall] }
    s.BoundsLaw ∧ ∃ s', step s = .next s' :=
  ⟨⟨⟨by decide, fun _ => rfl⟩, by unfold State.StageLaw; decide, rfl, by unfold State.TableLaw; decide +kernel⟩, _, rfl⟩
theorem test_StepKeepsNoSignalCleared_witness :
    let s : State := { ready with mon := { ready.mon with lossLatch := true }, pending := [.observe 5] }
    ClearedInNoSignal s ∧ ∃ s', step s = .next s' := ⟨fun _ => rfl, _, rfl⟩

/-! ### The manual's worked cases (2.12, 3.4, 3.11, 4.9, 5.8, 6.3, 7.5, 8.8) -/

/-- A content of a size mode, with its guard 0. -/
def contentOf (mode : SizeMode) (key : Key) : Content :=
  { anyContent with key := key, present := { anyContent.present with mode := mode, guard := 0 } }

/-- The figures of a plan, where the record fits. -/
def figures (win hin ls slead : Nat) (mode : SizeMode) : Option Plan :=
  match planFor 5 win hin ls slead (contentOf mode anyContent.key) profileA with
  | .fit p => some p
  | .unfit _ => none

/-- A planning's reason, where the record does not fit. -/
def reasonOf (win hin : Nat) (c : Content) (p : Profile) : Option UnfitReason :=
  match planFor 5 win hin 16160 50500 c p with
  | .fit _ => none
  | .unfit r => some r

theorem test_worked_case_a :
    (figures 1920 1080 11852 30371 .fit).map (fun p => (p.wout, p.hout, p.sh, p.sv)) = some (3840, 2160, 32768, 32768)
      ∧ (figures 1920 1080 11852 30371 .fit).map (fun p => (p.lp, p.plead, p.tscan, p.tmin)) = some (5926, 11112, 811122, 822974)
      ∧ (figures 1920 1080 11852 30371 .fit).map (fun p => (p.d, p.w, p.de)) = some (2963, 22222, 2963)
      ∧ (figures 1920 1080 11852 30371 .fit).map (fun p => (p.q, p.slack, p.limit, p.predict)) = some (8, 120, 88890, true) := by
  decide +kernel
theorem test_worked_case_b :
    (figures 3840 2160 4938 24691 .native).map (fun p => (p.lp, p.plead, p.tscan, p.tmin)) = some (5000, 9375, 684375, 694375)
      ∧ (figures 3840 2160 4938 24691 .native).map (fun p => (p.d, p.w, p.de)) = some (1235, 16551, 1235)
      ∧ (figures 3840 2160 4938 24691 .native).map (fun p => (p.q, p.slack, p.limit, p.predict)) = some (35, 93, 28702, true) := by
  decide +kernel
theorem test_worked_case_c :
    (figures 1920 800 15873 39683 .fit).map (fun p => (p.hout, p.yoff, p.lp, p.tmin)) = some (1600, 280, 7937, 1102251)
      ∧ (figures 1920 800 15873 39683 .fit).map (fun p => (p.d, p.w, p.de)) = some (-134929, 0, -24801)
      ∧ (figures 1920 800 15873 39683 .fit).map (fun p => (p.q, p.slack, p.limit, p.predict)) = some (120, 8, 7936, false) := by
  decide +kernel
/-- Case D, and the table of sizes: the reason found, or none where the size and place pass. -/
theorem test_unfit_reasons :
    reasonOf 3840 1600 (contentOf .fit anyContent.key) profileA = some .depth
      ∧ reasonOf 640 480 (contentOf .fit anyContent.key) profileA = some .ratio
      ∧ reasonOf 3840 2160 (contentOf .native anyContent.key) { profileA with wp := 1920, hp := 1080 } = some .placement
      ∧ reasonOf 1920 1080 (contentOf .native anyContent.key) Profile.invalid = some .profile := by decide +kernel
theorem test_worked_lookup :
    let full : Key := { width := some 1920, height := some 1080, format := none, depth := none, window := some (11800, 11900),
                        vrr := some true }
    let size : Key := { anyContent.key with width := some 1920, height := some 1080 }
    let rec_ := fun (c : Content) => ({ readyRecord with content := some c } : ModeRecord)
    let placed : Content := { contentOf .explicit full with
      present := { anyContent.present with mode := .explicit, wout := 1920, hout := 1080, xoff := 3000, guard := 0 } }
    let blank := fun n => List.replicate n ModeRecord.free
    let s0 := searching profileA
    let s : State := { s0 with
      mon := { s0.mon with obs := { seen with ls := 11852, slead := 30371, depth := .d10, vrr := true } }
      cat := blank 2 ++ [rec_ placed] ++ blank 2 ++ [rec_ (contentOf .fit size)] ++ blank 3 ++ [rec_ (contentOf .integer size)]
        ++ blank 1 ++ [rec_ (contentOf .native anyContent.key)] ++ blank 36 }
    candidates s.cat s.mon.obs = [2, 5, 9, 11]
      ∧ (recordAt (requestLookup s) 2).fit = .unfit .placement ∧ activeSlot (requestLookup s) = some 5
      ∧ (requestLookup s).plan.map (·.w) = some 22222 := by decide +kernel

/-- The pacer on profile 0, after a last launch, with periods listed. -/
def pacing (last : LastLaunch) (periods : List Nat) (now : Nat) : State :=
  let s := driving profileA .live
  { s with now := now, pacer := { s.pacer with last := some last }, mon := { s.mon with periods := periods } }

theorem test_slow_source_predictions :
    (predictions 0 (pacing ⟨0, .live, .live, 822974⟩ [2500000, 2500000, 2500000, 2500000] 0)).map (·.time) = [1250000]
      ∧ (predictions 3750000 (pacing ⟨3750000, .redraw, .predicted, 822974⟩ [2500000, 2500000, 2500000, 1800000] 4277778)).map
          (·.time) = [4912500] := by decide +kernel
/-- The fast source's deferral, and the irregular source's forced redraw, taken before and after it is made. -/
theorem test_deciding_launches :
    decidingLaunch 680000 694375 [] (pacing ⟨0, .live, .live, 694375⟩ [680000] 663449) = some ⟨0, 694375, true⟩
      ∧ 0 + 694375 - 680000 = 14375
      ∧ decidingLaunch 2850000 822974 [] (pacing ⟨2083333, .redraw, .forced, 822974⟩ [] 2827778) = some ⟨2083333, 822974, false⟩
      ∧ decidingLaunch 2850000 822974 [] (pacing ⟨0, .live, .live, 822974⟩ [] 2000000) = some ⟨2083333, 822974, false⟩
      ∧ 2083333 + 822974 - 2850000 = 56307 := by decide +kernel
theorem test_filter_at_work :
    filterTaps 8 100 100 120 140 = 109 ∧ filterTaps 8 200 200 220 240 = 209 ∧ filterTaps 8 300 300 320 340 = 309
      ∧ filterTaps 8 400 400 420 440 = 409 ∧ filterTaps 8 109 209 309 409 = 259 := by decide
theorem test_panel_line_times :
    let f : PanelFrame := { panelFrame .live 0 with launch := 0, lf := 5926, nlead := 30, hp := 2160, nfpMin := 32 }
    f.lineStart 1 = 371 ∧ f.activeStart 0 = 11112 ∧ f.activeStart 1 = 11482 ∧ f.activeStart 2159 = 810751
      ∧ f.scanEnd = 811122 ∧ f.trailEnd = 822974 := by decide
theorem test_figures_texts :
    rateText 833333 = [1, 2, 0, 37, 0] ∧ microText 2963 = [2, 9, 37, 6] ∧ microText (-24801) = [38, 2, 4, 8, 37, 0]
      ∧ countText 3 = [3] := by decide +kernel
/-- The settle of a source seen in REST wakes the part, and the lookup that follows finds the record. -/
theorem test_wake_on_source :
    let s0 := candidate .candidate (frameOf 1080 false)
    let s := run (.lineStart 30000) { s0 with pacer := { s0.pacer with state := .rest } }
    s.mon.state = .settled ∧ s.pacer.state = .live ∧ s.cat.map (·.state) = [.free, .active] := by decide +kernel
/-- A window shown at the scan end of a REDRAW ends HOLD. -/
theorem test_window_edit_ends_hold :
    let s0 := scanning .redraw 6 .scan
    let s := run .scanEnd { s0 with
      pacer := { s0.pacer with state := .hold }
      overlay := { s0.overlay with windows := [⟨.hidden, some figuresDef, 0, [], 0⟩] }
      stage := { edits := [.winShow 0 true], groupOpen := false } }
    s.pacer.state = .freeRun ∧ s.stage.edits = [] ∧ s.ev.flags = 0x0040#16 ∧ (windowAt s 0).state = .shown := by decide +kernel

end Sys2Proof.Tests
end

section
/-! PROOFS. CAT_LIST (R42, R181): a request whose body leaves the state as it is only replies, and the fields of one entry
of the list are read back from its byte. -/

namespace Sys2Proof.Proofs.CatalogueList

open Sys2Proof Sys2Proof.Machine Sys2Proof.Cert

/-! ### A request that only replies -/

/-- Serving a request whose body leaves the state as it is adds the reply and nothing else, at the tick of the command. -/
theorem serve_eq_replied {code : Byte} {ps data : List Byte} {s : State} {status : Status}
    {body : List Byte → State → Answer} {t : Nat} (hs : Serving s code ps)
    (hb : body ps (tick t s) = ⟨tick t s, status, data⟩) :
    serve code body t s = replied code status data (atTime t s) := by
  rw [serve_of_processing body t hs, hb, finish_spec]
  rfl

/-- CAT_LIST is served by its body. -/
theorem exec_catList (t : Nat) (s : State) : exec (.catList t) s = .next (serve 0x26#8 bodyCatList t s) := rfl

theorem bodyCatList_of_length_ne_zero {ps : List Byte} (h : ps.length ≠ 0) (s : State) :
    bodyCatList ps s = ⟨s, .badLength, ps.take 8⟩ := if_pos h

theorem bodyCatList_nil (s : State) :
    bodyCatList [] s = ⟨s, .ok, (List.range 48).map fun i => listByte (recordAt s i)⟩ := rfl

/-- CAT_LIST only replies, with the status and the data its body gives. -/
theorem catList_onlyReplies {t : Nat} {s : State} {ps data : List Byte} {status : Status} (hs : Serving s 0x26#8 ps)
    (hb : bodyCatList ps (tick t s) = ⟨tick t s, status, data⟩) :
    OnlyReplies (.catList t) s 0x26#8 status data :=
  ⟨max s.now t, by rw [exec_catList, serve_eq_replied hs hb]; rfl⟩

/-! ### The fields of an entry -/

theorem slotStateCode_lt (st : SlotState) : st.code < 4 := by cases st <;> decide

theorem fitCode_lt (f : Fit) : f.code < 4 := by cases f <;> simp [Fit.code]

theorem unfitReasonCode_lt (r : UnfitReason) : r.code < 8 := by cases r <;> decide

theorem reasonCode_lt (f : Fit) : f.reasonCode < 8 := by
  cases f with
  | untested => decide
  | fit _ => exact Nat.zero_lt_succ _
  | unfit r => exact unfitReasonCode_lt r

theorem boolCode_lt (b : Bool) : boolCode b < 2 := by cases b <;> decide

/-- The packed fields of an entry fit its byte, so none is cut. -/
theorem listByte_toNat (r : ModeRecord) :
    (listByte r).toNat = r.state.code + 4 * r.fit.code + 16 * r.fit.reasonCode + 128 * boolCode r.locked := by
  have hstate := slotStateCode_lt r.state
  have hfit := fitCode_lt r.fit
  have hreason := reasonCode_lt r.fit
  have hlock := boolCode_lt r.locked
  exact Nat.mod_eq_of_lt (by omega)

/-- Bit 7 of an entry is the lock: the fields below it come to less than 128. -/
theorem listByte_getLsbD_seven (r : ModeRecord) : (listByte r).getLsbD 7 = r.locked := by
  have hstate := slotStateCode_lt r.state
  have hfit := fitCode_lt r.fit
  have hreason := reasonCode_lt r.fit
  have hbit : (listByte r).getLsbD 7 = decide (128 ≤ (listByte r).toNat) := BitVec.msb_eq_decide (listByte r)
  rw [hbit, listByte_toNat]
  cases r.locked with
  | false => exact decide_eq_false (by simp only [boolCode, Bool.false_eq_true, if_false]; omega)
  | true => exact decide_eq_true (by simp only [boolCode, if_true]; omega)

/-- The byte of an entry gives back its four fields at the places R181 gives them. -/
theorem listByte_fields (r : ModeRecord) :
    (listByte r).toNat % 4 = r.state.code ∧ (listByte r).toNat / 4 % 4 = r.fit.code
      ∧ (listByte r).toNat / 16 % 8 = r.fit.reasonCode ∧ (listByte r).getLsbD 7 = r.locked := by
  have hstate := slotStateCode_lt r.state
  have hfit := fitCode_lt r.fit
  have hreason := reasonCode_lt r.fit
  have hbyte := listByte_toNat r
  exact ⟨by omega, by omega, by omega, listByte_getLsbD_seven r⟩

/-! ### The list -/

/-- Settles O26: the refusal and the list are the two branches of the body, and each entry is `listByte` of its slot. -/
theorem catListSummarisesTheCatalogue : Obligations.CatListSummarisesTheCatalogue := by
  intro t s ps hs
  constructor
  · intro hlen
    exact catList_onlyReplies hs (bodyCatList_of_length_ne_zero hlen _)
  · rintro rfl
    refine ⟨(List.range 48).map fun i => listByte (recordAt s i), catList_onlyReplies hs (bodyCatList_nil _), ?_, ?_⟩
    · rw [List.length_map, List.length_range]
    · intro i hi
      have hentry : ((List.range 48).map fun i => listByte (recordAt s i))[i]? = some (listByte (recordAt s i)) := by
        rw [List.getElem?_map, List.getElem?_range hi, Option.map_some]
      exact ⟨_, hentry, listByte_fields (recordAt s i)⟩

end Sys2Proof.Proofs.CatalogueList
end

section
/-! PROOFS. IMG_READ (R138): the three branches of its body, and the run of image memory it answers with. -/

namespace Sys2Proof.Proofs.ImageReading

open Sys2Proof Sys2Proof.Machine Sys2Proof.Cert
open Sys2Proof.Proofs.CatalogueList (serve_eq_replied)

/-- A command that is served by a body only replies when the body leaves the state as it is. -/
theorem onlyReplies_of_serve {c : Instr} {code : Byte} {ps data : List Byte} {s : State} {status : Status}
    {body : List Byte → State → Answer} {t : Nat} (hc : exec c s = .next (serve code body t s))
    (hs : Serving s code ps) (hb : body ps (tick t s) = ⟨tick t s, status, data⟩) :
    OnlyReplies c s code status data :=
  ⟨max s.now t, by rw [hc, serve_eq_replied hs hb]; rfl⟩

/-- IMG_READ is served by its body. -/
theorem exec_imgRead (t : Nat) (s : State) : exec (.imgRead t) s = .next (serve 0x36#8 bodyImgRead t s) := rfl

/-! ### The branches of the body -/

theorem bodyImgRead_of_length_ne_four {ps : List Byte} (h : ps.length ≠ 4) (s : State) :
    bodyImgRead ps s = ⟨s, .badLength, ps.take 8⟩ := if_pos h

/-- A page, an offset or a count outside its range is refused. -/
theorem bodyImgRead_of_out_of_range {ps : List Byte} (hlen : ps.length = 4)
    (h : 127 < field ps 0 1 ∨ 2047 < field ps 1 2 ∨ field ps 3 1 < 1 ∨ 96 < field ps 3 1) (s : State) :
    bodyImgRead ps s = ⟨s, .badValue, ps.take 8⟩ := by
  have hrange : Config.imagePages ≤ field ps 0 1 ∨ Config.pageBytes ≤ field ps 1 2 ∨ field ps 3 1 = 0
      ∨ Config.maxLength < field ps 3 1 := by
    simp only [Config.imagePages, Config.pageBytes, Config.maxLength]
    omega
  unfold bodyImgRead
  rw [if_neg (not_not_intro hlen), if_pos hrange, refuse]

/-- Within the ranges the answer is the run of memory from the start address on. -/
theorem bodyImgRead_of_in_range {ps : List Byte} (hlen : ps.length = 4) (hpage : field ps 0 1 ≤ 127)
    (hoffset : field ps 1 2 ≤ 2047) (hmin : 1 ≤ field ps 3 1) (hmax : field ps 3 1 ≤ 96) (s : State) :
    bodyImgRead ps s = ⟨s, .ok, imageBytesFrom (field ps 0 1 * 2048 + field ps 1 2) (field ps 3 1) s⟩ := by
  have hrange : ¬(Config.imagePages ≤ field ps 0 1 ∨ Config.pageBytes ≤ field ps 1 2 ∨ field ps 3 1 = 0
      ∨ Config.maxLength < field ps 3 1) := by
    simp only [Config.imagePages, Config.pageBytes, Config.maxLength]
    omega
  unfold bodyImgRead
  rw [if_neg (not_not_intro hlen), if_neg hrange, accept]
  rfl

/-! ### The run of image memory -/

/-- The run is cut at the end of the 262,144 bytes of image memory. -/
theorem length_imageBytesFrom (start count : Nat) (s : State) :
    (imageBytesFrom start count s).length = min count (262144 - start) := by
  rw [imageBytesFrom, List.length_map, List.length_range]
  rfl

/-- The run stands in address order. -/
theorem imageBytesFrom_getElem? {start count i : Nat} {s : State} (hi : i < (imageBytesFrom start count s).length) :
    (imageBytesFrom start count s)[i]? = some (imageRead (start + i) s.overlay.image) := by
  rw [imageBytesFrom, List.length_map, List.length_range] at hi
  rw [imageBytesFrom, List.getElem?_map, List.getElem?_range hi, Option.map_some]

/-- The clock is no part of image memory. -/
theorem imageBytesFrom_tick (start count t : Nat) (s : State) :
    imageBytesFrom start count (tick t s) = imageBytesFrom start count s := rfl

/-- Settles O32: the two refusals and the run of memory are the three branches of the body. -/
theorem imgReadReadsImageMemory : Obligations.ImgReadReadsImageMemory := by
  intro t s ps hs
  refine ⟨fun hlen => ?_, fun hlen hout => ?_, fun hlen hpage hoffset hmin hmax => ?_⟩
  · exact onlyReplies_of_serve (exec_imgRead t s) hs (bodyImgRead_of_length_ne_four hlen _)
  · exact onlyReplies_of_serve (exec_imgRead t s) hs (bodyImgRead_of_out_of_range hlen hout _)
  · refine ⟨imageBytesFrom (field ps 0 1 * 2048 + field ps 1 2) (field ps 3 1) s, ?_, length_imageBytesFrom _ _ _,
      fun i hi => imageBytesFrom_getElem? hi⟩
    have hbody := bodyImgRead_of_in_range hlen hpage hoffset hmin hmax (tick t s)
    rw [imageBytesFrom_tick] at hbody
    exact onlyReplies_of_serve (exec_imgRead t s) hs hbody

end Sys2Proof.Proofs.ImageReading
end

section
/-! PROOFS. ECHO (R167): its one branch accepts, whatever the parameters are. -/

namespace Sys2Proof.Proofs.Echo

open Sys2Proof Sys2Proof.Machine Sys2Proof.Cert
open Sys2Proof.Proofs.ImageReading (onlyReplies_of_serve)

/-- ECHO is served by its body. -/
theorem exec_echo (t : Nat) (s : State) : exec (.echo t) s = .next (serve 0x10#8 bodyEcho t s) := rfl

/-- The body checks neither the length nor the values: it answers OK with the parameters and the state as it was. -/
theorem bodyEcho_eq (ps : List Byte) (s : State) : bodyEcho ps s = ⟨s, .ok, ps⟩ := rfl

/-- Settles O12: a served command whose body leaves the state as it is only replies. -/
theorem echoReturnsItsParameters : Obligations.EchoReturnsItsParameters := by
  intro t s ps hs
  exact onlyReplies_of_serve (exec_echo t s) hs (bodyEcho_eq ps (tick t s))

end Sys2Proof.Proofs.Echo
end

section
/-! PROOFS. The facts the other parts share: the tables after a replacement, and a request served by its body. -/

namespace Sys2Proof.Proofs.Basics

open Sys2Proof Sys2Proof.Machine Sys2Proof.Cert

/-! ### The tables -/

/-- The slot replaced reads as the new record where the table has the slot; every other slot reads as before. -/
theorem recordAt_setRecord (slot i : Nat) (r : ModeRecord) (s : State) :
    recordAt (setRecord slot r s) i = if i = slot ∧ slot < s.cat.length then r else recordAt s i := by
  simp only [recordAt, setRecord, setCat_cat, List.getD_eq_getElem?_getD, List.getElem?_set]
  by_cases h : slot = i
  · subst h
    by_cases hlt : slot < s.cat.length <;> simp [hlt]
  · simp [h, Ne.symm h]

/-- The window replaced reads as the new one where the table has it; every other window reads as before. -/
theorem windowAt_setWindow (win i : Nat) (w : Window) (s : State) :
    windowAt (setWindow win w s) i = if i = win ∧ win < s.overlay.windows.length then w else windowAt s i := by
  simp only [windowAt, setWindow, setOverlay_overlay, List.getD_eq_getElem?_getD, List.getElem?_set]
  by_cases h : win = i
  · subst h
    by_cases hlt : win < s.overlay.windows.length <;> simp [hlt]
  · simp [h, Ne.symm h]

/-- A slot that does not read as FREE is one of the table's records. -/
theorem recordAt_mem {s : State} {i : Nat} (h : (recordAt s i).state ≠ .free) :
    i < s.cat.length ∧ recordAt s i ∈ s.cat := by
  by_cases hlt : i < s.cat.length
  · exact ⟨hlt, by simp [recordAt, hlt]⟩
  · exact absurd (by simp [recordAt, Nat.not_lt.mp hlt, ModeRecord.free]) h

/-- A record of the table is the one of some slot. -/
theorem exists_recordAt_of_mem {s : State} {r : ModeRecord} (h : r ∈ s.cat) : ∃ i, recordAt s i = r := by
  obtain ⟨i, hi, rfl⟩ := List.mem_iff_getElem.mp h
  exact ⟨i, by simp [recordAt, hi]⟩

/-! ### A request served by its body -/

section
variable {c : Instr} {code : Byte} {ps data : List Byte} {s s' : State} {status : Status}
  {body : List Byte → State → Answer} {t : Nat}

/-- A request served adds to what its body leaves the reply the body gives. -/
theorem exec_eq_replied (hc : exec c s = .next (serve code body t s)) (hs : Serving s code ps)
    (hb : body ps (tick t s) = ⟨s', status, data⟩) : exec c s = .next (replied code status data s') := by
  rw [hc, serve_of_processing body t hs, hb, finish_spec]
  rfl

/-- A request its body refuses is refused, and nothing else is done. -/
theorem exec_eq_refused (hc : exec c s = .next (serve code body t s)) (hs : Serving s code ps)
    (hb : body ps (tick t s) = refuse status ps (tick t s)) : exec c s = .next (refused code status ps t s) :=
  exec_eq_replied hc hs hb

end

/-! ### Requests that stage an edit -/

/-- A staged request's body refuses, with the state as it was, or comes to the acceptance of an edit (R146). -/
def RefusesOrStages (a : Answer) (s : State) : Prop := a.st = s ∨ ∃ e data ps, a = stageEdit e data ps s

theorem refusesOrStages_refuse (status : Status) (ps : List Byte) (s : State) :
    RefusesOrStages (refuse status ps s) s := .inl rfl

theorem refusesOrStages_stageEdit (e : Edit) (data ps : List Byte) (s : State) :
    RefusesOrStages (stageEdit e data ps s) s := .inr ⟨e, data, ps, rfl⟩

/-- A check that refuses, before what follows it. -/
theorem refusesOrStages_check {p : Prop} [Decidable p] {status : Status} {ps : List Byte} {s : State} {a : Answer}
    (h : RefusesOrStages a s) : RefusesOrStages (if p then refuse status ps s else a) s := by
  split
  · exact refusesOrStages_refuse status ps s
  · exact h

theorem bodyCatStore_refusesOrStages (ps : List Byte) (s : State) : RefusesOrStages (bodyCatStore ps s) s := by
  unfold bodyCatStore
  refine refusesOrStages_check (refusesOrStages_check ?_)
  split
  · exact refusesOrStages_refuse _ ps s
  · exact refusesOrStages_check (refusesOrStages_stageEdit _ _ ps s)

theorem bodyCatRetire_refusesOrStages (ps : List Byte) (s : State) : RefusesOrStages (bodyCatRetire ps s) s :=
  refusesOrStages_check (refusesOrStages_check (refusesOrStages_check (refusesOrStages_stageEdit _ _ ps s)))

theorem bodyWinDefine_refusesOrStages (ps : List Byte) (s : State) : RefusesOrStages (bodyWinDefine ps s) s := by
  unfold bodyWinDefine
  refine refusesOrStages_check (refusesOrStages_check ?_)
  cases kindLength (field ps 1 1) (if field ps 1 1 = 2 then field ps 17 1 else 0) with
  | none => exact refusesOrStages_refuse _ ps s
  | some kindBytes =>
    refine refusesOrStages_check (refusesOrStages_check (refusesOrStages_check ?_))
    cases definitionOf ps (15 + kindBytes) with
    | none => exact refusesOrStages_refuse _ ps s
    | some d => exact refusesOrStages_stageEdit _ _ ps s

theorem bodyWinPlace_refusesOrStages (ps : List Byte) (s : State) : RefusesOrStages (bodyWinPlace ps s) s :=
  refusesOrStages_check (refusesOrStages_check (refusesOrStages_check (refusesOrStages_stageEdit _ _ ps s)))

theorem bodyWinShow_refusesOrStages (ps : List Byte) (s : State) : RefusesOrStages (bodyWinShow ps s) s :=
  refusesOrStages_check (refusesOrStages_check (refusesOrStages_check (refusesOrStages_stageEdit _ _ ps s)))

theorem bodyWinRetire_refusesOrStages (ps : List Byte) (s : State) : RefusesOrStages (bodyWinRetire ps s) s :=
  refusesOrStages_check (refusesOrStages_check (refusesOrStages_stageEdit _ _ ps s))

theorem bodySetFill_refusesOrStages (ps : List Byte) (s : State) : RefusesOrStages (bodySetFill ps s) s :=
  refusesOrStages_check (refusesOrStages_stageEdit _ _ ps s)

/-! ### Requests that leave the state as it is -/

theorem bodyCatFind_st (ps : List Byte) (s : State) : (bodyCatFind ps s).st = s := by
  simp only [bodyCatFind, searchReply, refuse, accept]
  (repeat' split) <;> rfl

theorem bodyWinRead_st (ps : List Byte) (s : State) : (bodyWinRead ps s).st = s := by
  simp only [bodyWinRead, reportOr, refuse, accept]
  (repeat' split) <;> rfl

end Sys2Proof.Proofs.Basics
end

section
/-! PROOFS. The law of the ACTIVE record (R35, R45) is kept by every step. The law reads little of a state: what each record
holds, the plan in force, the states of the pacer and the monitor, and the observation. -/

namespace Sys2Proof.Proofs.ActiveRecord

open Sys2Proof Sys2Proof.Machine Sys2Proof.Cert
open Sys2Proof.Proofs.Basics

/-! ### What the law reads of the catalogue -/

/-- What the law of the ACTIVE record reads of a slot: its state and content. -/
def holding (s : State) (i : Nat) : SlotState × Option Content := ((recordAt s i).state, (recordAt s i).content)

theorem holding_congr {s s' : State} (h : s'.cat = s.cat) : holding s' = holding s := by
  funext i
  simp [holding, recordAt, h]

theorem activeAt_iff {s : State} {i : Nat} : s.ActiveAt i ↔ (holding s i).1 = .active := Iff.rfl

/-- A record's match reads nothing of it but its state and content. -/
theorem recordMatches_congr (o : Observation) {r r' : ModeRecord} (hs : r'.state = r.state)
    (hc : r'.content = r.content) : recordMatches o r' = recordMatches o r := by
  simp only [recordMatches, ModeRecord.stored, hs, hc]

theorem holding_of_map {s s' : State} {g : ModeRecord → ModeRecord} (h : s'.cat = s.cat.map g)
    (hg : ∀ r, (g r).state = r.state ∧ (g r).content = r.content) (hfree : g .free = .free) :
    holding s' = holding s := by
  funext i
  have hi : recordAt s' i = g (recordAt s i) := by
    rw [recordAt, h, ← hfree, List.getD_map]
    rfl
  simp [holding, hi, hg]

theorem holding_report (f : Stats → Stats) (s : State) : holding (report f s) = holding s := by
  refine holding_of_map (g := fun r => if r.state = .active then { r with stats := f r.stats } else r) rfl ?_ rfl
  intro r
  split <;> simp

/-- A record replaced by one of the same state and content leaves what the law reads. -/
theorem holding_setRecord {slot : Nat} {r : ModeRecord} {s : State} (hs : r.state = (recordAt s slot).state)
    (hc : r.content = (recordAt s slot).content) : holding (setRecord slot r s) = holding s := by
  funext i
  simp only [holding, recordAt_setRecord]
  split
  · next h => simp [h.1, hs, hc]
  · rfl

/-! ### The law carried over -/

/-- The law holds where nothing it reads has changed: a match reads the observation but for the game request and the frames
since settle. -/
theorem activeLaw_congr {s s' : State} (h : s.ActiveLaw) (hcat : holding s' = holding s) (hplan : s'.plan = s.plan)
    (hpacer : s'.pacer.state = s.pacer.state) (hmon : s'.mon.state = s.mon.state)
    (hobs : ∀ r, recordMatches s'.mon.obs r = recordMatches s.mon.obs r) : s'.ActiveLaw := by
  obtain ⟨huniq, hact, hsome⟩ := h
  simp only [State.ActiveLaw, activeAt_iff, hcat, hplan, hpacer, hmon, hobs]
  refine ⟨huniq, fun i hi => ?_, hsome⟩
  have hr := congrFun hcat i
  simp only [holding, Prod.mk.injEq] at hr
  rw [recordMatches_congr _ hr.1 hr.2]
  exact hact i hi

/-- The same, where the monitor has not changed at all. -/
theorem activeLaw_of_same {s s' : State} (h : s.ActiveLaw) (hcat : holding s' = holding s) (hplan : s'.plan = s.plan)
    (hpacer : s'.pacer.state = s.pacer.state) (hmon : s'.mon = s.mon) : s'.ActiveLaw :=
  activeLaw_congr h hcat hplan hpacer (by rw [hmon]) fun r => by rw [hmon]

/-! ### No record ACTIVE -/

theorem noneActive_congr {s s' : State} (h : NoneActive s) (hcat : s'.cat = s.cat) (hplan : s'.plan = s.plan) :
    NoneActive s' := by
  simpa [NoneActive, hcat, hplan] using h

theorem not_activeAt_iff {s : State} : (∀ i, ¬s.ActiveAt i) ↔ ∀ r ∈ s.cat, r.state ≠ .active := by
  constructor
  · intro h r hr hact
    obtain ⟨i, rfl⟩ := exists_recordAt_of_mem hr
    exact h i hact
  · intro h i hi
    have hmem := (recordAt_mem (s := s) (i := i) (by simp only [State.ActiveAt] at hi; simp [hi])).2
    exact h _ hmem hi

/-- With no record ACTIVE and no plan in force the law holds. -/
theorem activeLaw_of_noneActive {s : State} (h : NoneActive s) : s.ActiveLaw := by
  have hnone := not_activeAt_iff.mpr h.1
  exact ⟨fun i _ hi => absurd hi (hnone i), fun i hi => absurd hi (hnone i), fun hp => absurd h.2 hp⟩

/-- Under the law, where no record is ACTIVE no plan is in force. -/
theorem noneActive_of_records {s : State} (h : s.ActiveLaw) (hnone : ∀ r ∈ s.cat, r.state ≠ .active) :
    NoneActive s := by
  refine ⟨hnone, by_contra fun hp => ?_⟩
  obtain ⟨i, hi⟩ := h.2.2 hp
  exact not_activeAt_iff.mpr hnone i hi

/-- Under the law, no record is ACTIVE outside LIVE, and none while the monitor is not SETTLED. -/
theorem noneActive_of_states {s : State} (h : s.ActiveLaw) (hs : s.pacer.state ≠ .live ∨ s.mon.state ≠ .settled) :
    NoneActive s := by
  refine noneActive_of_records h (not_activeAt_iff.mp fun i hi => ?_)
  obtain ⟨hlive, hsettled, -⟩ := h.2.1 i hi
  rcases hs with hs | hs
  · exact hs hlive
  · exact hs hsettled

/-! ### Activation and lookup -/

theorem pacerActivate_state (plan : Plan) (s : State) : (pacerActivate plan s).pacer.state = .live := by
  unfold pacerActivate
  dsimp only
  split <;> simp [setPacerState, stopHold]

/-- A planning names the slot it was made for (3.1). -/
theorem planFor_slot {slot win hin ls slead : Nat} {c : Content} {q : Profile} {p : Plan}
    (h : planFor slot win hin ls slead c q = .fit p) : p.slot = slot := by
  simp only [planFor] at h
  repeat' split at h
  all_goals cases h
  rfl

theorem planSlot_slot {slot : Nat} {o : Observation} {s : State} {p : Plan} (h : planSlot slot o s = .fit p) :
    p.slot = slot := by
  unfold planSlot at h
  split at h
  · exact planFor_slot h
  · cases h

/-- A record made ACTIVE where none is, by a plan of its slot and with the pacer in LIVE. -/
theorem activeLaw_of_only {s s0 : State} {slot : Nat} (h0 : NoneActive s0)
    (hother : ∀ i, i ≠ slot → (recordAt s i).state = (recordAt s0 i).state) (hlive : s.pacer.state = .live)
    (hsettled : s.mon.state = .settled) (hmatch : recordMatches s.mon.obs (recordAt s slot) = true)
    (hplan : s.plan.map (·.slot) = some slot) (hact : s.ActiveAt slot) : s.ActiveLaw := by
  have honly : ∀ i, s.ActiveAt i → i = slot := fun i hi => by
    by_contra hne
    rw [State.ActiveAt, hother i hne] at hi
    exact not_activeAt_iff.mpr h0.1 i hi
  refine ⟨fun i j hi hj => (honly i hi).trans (honly j hj).symm, fun i hi => ?_, fun _ => ⟨slot, hact⟩⟩
  obtain rfl := honly i hi
  exact ⟨hlive, hsettled, hmatch, hplan⟩

theorem recordMatches_stored {o : Observation} {r : ModeRecord} (h : recordMatches o r = true) : r.state ≠ .free := by
  intro hf
  simp [recordMatches, ModeRecord.stored, hf] at h

/-- A match is one of a READY record's content made ACTIVE, too. -/
theorem recordMatches_of_active {o : Observation} {r r' : ModeRecord} (h : recordMatches o r = true)
    (hs : r'.state = .active) (hc : r'.content = r.content) : recordMatches o r' = true := by
  rw [← h]
  have hfree := recordMatches_stored h
  simp only [recordMatches, ModeRecord.stored, hs, hc]
  cases hr : r.state <;> simp_all

theorem activeLaw_activate {slot : Nat} {plan : Plan} {s : State} (h : NoneActive s) (hsettled : s.mon.state = .settled)
    (hmatch : recordMatches s.mon.obs (recordAt s slot) = true) (hplan : plan.slot = slot) :
    (activate slot plan s).ActiveLaw := by
  have hlen := (recordAt_mem (recordMatches_stored hmatch)).1
  have hrec : ∀ i, recordAt (activate slot plan s) i
      = if i = slot then { recordAt s slot with
          state := .active, fit := .fit plan, stats := (recordAt s slot).stats.addActivation }
        else recordAt s i := by
    intro i
    have hcat : recordAt (activate slot plan s) i = recordAt (setRecord slot { recordAt s slot with
          state := .active, fit := .fit plan, stats := (recordAt s slot).stats.addActivation } s) i := by
      simp [activate, recordAt]
    rw [hcat, recordAt_setRecord]
    simp [hlen]
  refine activeLaw_of_only (slot := slot) h (fun i hi => by simp [hrec, hi]) ?_ (by simp [hsettled]) ?_ ?_ ?_
  · simp [activate, pacerActivate_state]
  · simp only [activate_frame]
    exact recordMatches_of_active hmatch (by simp [hrec]) (by simp [hrec])
  · simp [activate, hplan]
  · simp [State.ActiveAt, hrec]

theorem holding_markUnfit (slot : Nat) (reason : UnfitReason) (s : State) :
    holding (markUnfit slot reason s) = holding s := holding_setRecord rfl rfl

theorem noneActive_iff_holding {s : State} : NoneActive s ↔ (∀ i, (holding s i).1 ≠ .active) ∧ s.plan = none := by
  rw [NoneActive, ← not_activeAt_iff]
  rfl

theorem noneActive_markUnfit {slot : Nat} {reason : UnfitReason} {s : State} (h : NoneActive s) :
    NoneActive (markUnfit slot reason s) := by
  rw [noneActive_iff_holding, holding_markUnfit]
  simpa using noneActive_iff_holding.mp h

/-- A lookup over records that match keeps the law: the one it activates, if any, is the only one (R33, R34). -/
theorem activeLaw_lookupOver {l : List Nat} {s : State} (h : NoneActive s) (hsettled : s.mon.state = .settled)
    (hl : ∀ i ∈ l, recordMatches s.mon.obs (recordAt s i) = true) : (lookupOver s.mon.obs l s).ActiveLaw := by
  induction l generalizing s with
  | nil => exact activeLaw_of_noneActive (noneActive_congr h (by simp [lookupOver]) (by simp [lookupOver]))
  | cons i l ih =>
    simp only [lookupOver]
    split
    · next plan hfit => exact activeLaw_activate h hsettled (hl i (by simp)) (planSlot_slot hfit)
    · next reason hunfit =>
      have hmon : (markUnfit i reason s).mon = s.mon := (markUnfit_frame i reason s).2.2.1
      rw [← hmon]
      refine ih (noneActive_markUnfit h) (by rw [hmon, hsettled]) fun j hj => ?_
      have hr := congrFun (holding_markUnfit i reason s) j
      simp only [holding, Prod.mk.injEq] at hr
      rw [hmon, recordMatches_congr _ hr.1 hr.2]
      exact hl j (by simp [hj])

theorem recordMatches_of_mem_candidates {cat : List ModeRecord} {o : Observation} {i : Nat}
    (h : i ∈ candidates cat o) : recordMatches o (cat.getD i .free) = true := by
  simp only [candidates, List.mem_flatMap, List.mem_filter, Bool.and_eq_true] at h
  obtain ⟨n, -, -, hm, -⟩ := h
  exact hm

theorem activeLaw_requestLookup {s : State} (h : s.ActiveLaw) : (requestLookup s).ActiveLaw := by
  unfold requestLookup
  split
  · next hruns =>
    simp only [lookupRuns, Bool.and_eq_true, decide_eq_true_eq] at hruns
    obtain ⟨⟨hsettled, -⟩, hnone⟩ := hruns
    have hn := noneActive_of_records h ((activeSlot_isNone_iff s).mp hnone)
    unfold runLookup
    split
    · exact activeLaw_of_noneActive (noneActive_congr hn (by simp) (by simp))
    · next c cs hc =>
      exact activeLaw_lookupOver hn hsettled fun i hi => recordMatches_of_mem_candidates (by rw [hc]; exact hi)
  · exact h

/-! ### Deactivation -/

theorem noneActive_withdrawActive (s : State) : NoneActive (withdrawActive s) := withdrawActive_spec s

/-- After a deactivation no record is ACTIVE and no plan in force, where a plan was in force only with a record ACTIVE
(R36, R45). -/
theorem noneActive_deactivate {s : State} (h : s.plan ≠ none → ∃ i, s.ActiveAt i) : NoneActive (deactivate s) := by
  unfold deactivate
  split
  · next hnone =>
    have hrec := (activeSlot_isNone_iff s).mp hnone
    refine ⟨hrec, by_contra fun hp => ?_⟩
    obtain ⟨i, hi⟩ := h hp
    exact not_activeAt_iff.mpr hrec i hi
  · exact noneActive_congr (noneActive_withdrawActive s) (by simp) (by simp)

theorem noneActive_deactivate_of_same {s s' : State} (h : s.ActiveLaw) (hcat : s'.cat = s.cat)
    (hplan : s'.plan = s.plan) : NoneActive (deactivate s') := by
  refine noneActive_deactivate fun hp => ?_
  obtain ⟨i, hi⟩ := h.2.2 (hplan ▸ hp)
  exact ⟨i, by rw [activeAt_iff, holding_congr hcat]; exact hi⟩

theorem noneActive_declareChange {s : State} (h : s.ActiveLaw) : NoneActive (declareChange s) :=
  noneActive_deactivate_of_same h (by simp) (by simp)

theorem activeLaw_declareLoss {s : State} (h : s.ActiveLaw) : (declareLoss s).ActiveLaw := by
  unfold declareLoss
  split
  · exact h
  all_goals exact activeLaw_of_noneActive (noneActive_deactivate_of_same h (by simp) (by simp))

end Sys2Proof.Proofs.ActiveRecord
end

section
/-! PROOFS. The law of the ACTIVE record through the edits, the launches, the monitor's occurrences and the requests. -/

namespace Sys2Proof.Proofs.ActiveRecordSteps

open Sys2Proof Sys2Proof.Machine Sys2Proof.Cert
open Sys2Proof.Proofs.Basics Sys2Proof.Proofs.ActiveRecord

/-! ### Edits and their application -/

/-- A slot that is not ACTIVE written with a record that is not ACTIVE either keeps the law: the ACTIVE record, if there is
one, is another. -/
theorem activeLaw_setRecord {slot : Nat} {r : ModeRecord} {s : State} (h : s.ActiveLaw)
    (hold : (recordAt s slot).state ≠ .active) (hnew : r.state ≠ .active) : (setRecord slot r s).ActiveLaw := by
  have hiff : ∀ i, (setRecord slot r s).ActiveAt i ↔ s.ActiveAt i := fun i => by
    simp only [State.ActiveAt, recordAt_setRecord]
    split
    · next hi => simp [hi.1, hold, hnew]
    · rfl
  obtain ⟨huniq, hact, hsome⟩ := h
  refine ⟨fun i j hi hj => huniq i j ((hiff i).mp hi) ((hiff j).mp hj), fun i hi => ?_, fun hp => ?_⟩
  · have hs := (hiff i).mp hi
    have hne : i ≠ slot := fun hi => hold (hi ▸ hs)
    simpa [recordAt_setRecord, hne] using hact i hs
  · obtain ⟨i, hi⟩ := hsome (by simpa using hp)
    exact ⟨i, (hiff i).mpr hi⟩

theorem noneActive_setRecord {slot : Nat} {r : ModeRecord} {s : State} (h : NoneActive s) (hnew : r.state ≠ .active) :
    NoneActive (setRecord slot r s) := by
  refine ⟨fun x hx => ?_, by simpa using h.2⟩
  rcases List.mem_or_eq_of_mem_set hx with hx | rfl
  · exact h.1 x hx
  · exact hnew

theorem contentMatches_iff (c : Content) (s : State) :
    contentMatches c s = true ↔
      s.mon.state = .settled ∧ s.mon.obs.outOfRange = false ∧ keyMatches c.key s.mon.obs = true := by
  simp [contentMatches, and_assoc]

/-- The ACTIVE record replaced by a content that matches, under a plan of its slot (R37). -/
theorem activeLaw_keepActive {slot : Nat} {c : Content} {plan : Plan} {s : State} (h : s.ActiveLaw)
    (hact : s.ActiveAt slot) (hm : contentMatches c s = true) (hplan : plan.slot = slot) :
    (keepActive slot c plan s).ActiveLaw := by
  obtain ⟨huniq, hprops, -⟩ := h
  obtain ⟨hlive, hsettled, -, -⟩ := hprops slot hact
  obtain ⟨-, hrange, hkey⟩ := (contentMatches_iff c s).mp hm
  have hlen : slot < s.cat.length := (recordAt_mem (by simp only [State.ActiveAt] at hact; simp [hact])).1
  have hcat : ∀ i, recordAt (keepActive slot c plan s) i
      = if i = slot then
          { state := .active, locked := (recordAt s slot).locked, content := some c, fit := .fit plan,
            stats := { Stats.zero with activations := 1 } }
        else recordAt s i := fun i => by
    have hset : (keepActive slot c plan s).cat = (setRecord slot
        { state := .active, locked := (recordAt s slot).locked, content := some c, fit := .fit plan,
          stats := { Stats.zero with activations := 1 } } s).cat := by
      simp only [keepActive]
      split <;> simp
    rw [recordAt, hset]
    exact (recordAt_setRecord slot i _ s).trans (by simp [hlen])
  have honly : ∀ i, (keepActive slot c plan s).ActiveAt i → i = slot := fun i hi => by
    by_contra hne
    rw [State.ActiveAt, hcat, if_neg hne] at hi
    exact hne (huniq i slot hi hact)
  refine ⟨fun i j hi hj => (honly i hi).trans (honly j hj).symm, fun i hi => ?_, fun _ => ⟨slot, ?_⟩⟩
  · obtain rfl := honly i hi
    have hp : (keepActive i c plan s).plan = some plan := by
      simp only [keepActive]
      split <;> simp
    simp [hlive, hsettled, hp, hplan, hcat, recordMatches, ModeRecord.stored, hrange, hkey]
  · simp [State.ActiveAt, hcat]

theorem noneActive_deactivate_of_law {s : State} (h : s.ActiveLaw) : NoneActive (deactivate s) :=
  noneActive_deactivate_of_same h rfl rfl

theorem activeLaw_applyStore {slot : Nat} {c : Content} {s : State} (h : s.ActiveLaw) :
    (applyStore slot c s).ActiveLaw := by
  unfold applyStore
  split
  · next hact =>
    have hready : ∀ fit, (writeReady slot c fit (deactivate s)).ActiveLaw := fun fit =>
      activeLaw_of_noneActive (noneActive_setRecord (noneActive_deactivate_of_law h) (by simp))
    unfold replaceActive
    split
    · next hm =>
      split
      · next hfit => exact activeLaw_keepActive h hact hm (planFor_slot hfit)
      · exact hready _
    · exact hready _
  · next hact => exact activeLaw_setRecord h hact (by simp)

theorem activeLaw_applyRetire {slot : Nat} {s : State} (h : s.ActiveLaw) : (applyRetire slot s).ActiveLaw := by
  unfold applyRetire
  split
  · exact h
  · next hr => exact activeLaw_setRecord h (by simp [hr]) (by simp [ModeRecord.free])
  · exact activeLaw_of_noneActive
      (noneActive_setRecord (noneActive_deactivate_of_law h) (by simp [ModeRecord.free]))

theorem activeLaw_applyEdit {e : Edit} {s : State} (h : s.ActiveLaw) : (applyEdit e s).ActiveLaw := by
  cases e with
  | catStore slot c => exact activeLaw_applyStore h
  | catRetire slot => exact activeLaw_applyRetire h
  | _ =>
    refine activeLaw_of_same h (holding_congr ?_) ?_ ?_ ?_ <;> simp [applyEdit]

theorem activeLaw_fold {edits : List Edit} {a : Application} (h : a.st.ActiveLaw) :
    (edits.foldl Application.take a).st.ActiveLaw := by
  induction edits generalizing a with
  | nil => exact h
  | cons e l ih => exact ih (activeLaw_applyEdit h)

theorem activeLaw_holdExitReport {visible : Bool} {s : State} (h : s.ActiveLaw) :
    (holdExitReport visible s).ActiveLaw := by
  unfold holdExitReport
  split
  · next hv =>
    have hn := noneActive_of_states h (.inl (by simp [hv.2]))
    exact activeLaw_of_noneActive (noneActive_congr hn (by simp) (by simp))
  · exact h

theorem activeLaw_emptyStage {s : State} (h : s.ActiveLaw) : (emptyStage s).ActiveLaw :=
  activeLaw_of_same h (holding_congr (by simp)) (by simp) (by simp) (by simp)

theorem activeLaw_stageLookup {catalogue active : Bool} {s : State} (h : s.ActiveLaw) :
    (stageLookup catalogue active s).ActiveLaw := by
  unfold stageLookup
  split
  · exact activeLaw_requestLookup h
  · exact h

theorem activeLaw_deliver {f : Flag} {s : State} (h : s.ActiveLaw) : (deliver f s).ActiveLaw :=
  activeLaw_of_same h (holding_congr (by simp)) (by simp) (by simp) (by simp)

theorem activeLaw_applyList {edits : List Edit} {s : State} (h : s.ActiveLaw) : (applyList edits s).ActiveLaw :=
  activeLaw_deliver (activeLaw_stageLookup (activeLaw_holdExitReport (activeLaw_emptyStage (activeLaw_fold h))))

theorem activeLaw_applicationPoint {s : State} (h : s.ActiveLaw) : (applicationPoint s).ActiveLaw := by
  unfold applicationPoint
  split
  · exact h
  · exact activeLaw_applyList h

theorem activeLaw_acceptEdit {e : Edit} {s : State} (h : s.ActiveLaw) : (acceptEdit e s).ActiveLaw := by
  have hstage : (s.setStage { s.stage with edits := s.stage.edits ++ [e] }).ActiveLaw :=
    activeLaw_of_same h (holding_congr rfl) rfl rfl rfl
  unfold acceptEdit
  dsimp only
  split
  · exact activeLaw_applicationPoint hstage
  · exact activeLaw_applicationPoint hstage
  all_goals exact hstage

theorem activeLaw_settlePacer {s : State} (h : s.ActiveLaw) : (settlePacer s).ActiveLaw :=
  activeLaw_of_same h (holding_congr (by simp)) (by simp) (by simp) (by simp)

theorem activeLaw_tick {t : Nat} {s : State} (h : s.ActiveLaw) : (tick t s).ActiveLaw :=
  activeLaw_of_same h (holding_congr rfl) rfl rfl rfl

/-! ### Launches -/

@[simp] theorem holding_setPacer (p : Pacer) (s : State) : holding (s.setPacer p) = holding s := rfl

@[simp] theorem holding_makeLaunch (kind : LaunchKind) (reason : LaunchReason) (lf at_ : Nat) (s : State) :
    holding (makeLaunch kind reason lf at_ s) = holding s := holding_congr (by simp)

@[simp] theorem holding_figuresOnLaunch (kind : LaunchKind) (s : State) :
    holding (figuresOnLaunch kind s) = holding s := holding_congr (by simp)

@[simp] theorem holding_periodicAfterLaunch (s : State) : holding (periodicAfterLaunch s) = holding s :=
  holding_congr (by simp)

@[simp] theorem holding_popSchedule (s : State) : holding (popSchedule s) = holding s := rfl

@[simp] theorem holding_schedulePredictions (anchor : Nat) (s : State) :
    holding (schedulePredictions anchor s) = holding s := rfl

@[simp] theorem holding_presentFrame (plan : Plan) (d lag : Nat) (cls : Option DeferClass) (s : State) :
    holding (presentFrame plan d lag cls s) = holding s := rfl

@[simp] theorem holding_skipFrame (s : State) : holding (skipFrame s) = holding s :=
  holding_report Stats.addSkipped s

theorem holding_takeEntry (x : SchedEntry) (s : State) : holding (takeEntry x s) = holding s := by
  simp only [takeEntry]
  (repeat' split) <;> simp [holding_report]

theorem holding_takeForced (d : Nat) (s : State) : holding (takeForced d s) = holding s := by
  simp [takeForced, holding_report]

theorem holding_takeLive (x : PendingLaunch) (s : State) : holding (takeLive x s) = holding s := by
  simp only [takeLive]
  (repeat' split) <;> simp [holding_report]

@[simp] theorem holding_decideFrame (plan : Plan) (s : State) : holding (decideFrame plan s) = holding s := by
  simp only [decideFrame]
  (repeat' split) <;> simp

theorem holding_pacerFrameStart (s : State) : holding (pacerFrameStart s) = holding s := by
  simp only [pacerFrameStart]
  (repeat' split) <;> simp

theorem activeLaw_takeEntry {x : SchedEntry} {s : State} (h : s.ActiveLaw) : (takeEntry x s).ActiveLaw :=
  activeLaw_of_same h (holding_takeEntry x s) (by simp) (by simp) (by simp)

theorem activeLaw_takeForced {d : Nat} {s : State} (h : s.ActiveLaw) : (takeForced d s).ActiveLaw :=
  activeLaw_of_same h (holding_takeForced d s) (by simp) (by simp) (by simp)

theorem activeLaw_takeLive {x : PendingLaunch} {s : State} (h : s.ActiveLaw) : (takeLive x s).ActiveLaw :=
  activeLaw_of_same h (holding_takeLive x s) (by simp) (by simp) (by simp)

theorem activeLaw_switchEnd {at_ : Nat} {s : State} (h : s.ActiveLaw) :
    (pacerSwitchEnd at_ s).ActiveLaw ∧ (endSwitch at_ s).ActiveLaw :=
  ⟨activeLaw_of_same h (holding_congr (by simp)) (by simp) (by simp) (by simp),
    activeLaw_of_same h (holding_congr (by simp)) (by simp) (by simp) (by simp)⟩

theorem activeLaw_launchPending {x : PendingLaunch} {s : State} (h : s.ActiveLaw) : (launchPending x s).ActiveLaw := by
  unfold launchPending
  split
  · exact activeLaw_applicationPoint (activeLaw_takeLive (activeLaw_switchEnd (activeLaw_switchEnd h).2).1)
  all_goals exact activeLaw_takeLive h

theorem activeLaw_launchFirst {e : Nat} {s : State} (h : s.ActiveLaw) : (launchFirst e s).ActiveLaw :=
  activeLaw_applicationPoint (activeLaw_takeEntry (activeLaw_switchEnd (activeLaw_switchEnd h).2).1)

theorem activeLaw_switchEndOf {e : Nat} {stageFirst : Bool} {s : State} (h : s.ActiveLaw) :
    (switchEndOf e stageFirst s).ActiveLaw := by
  have hend := (activeLaw_switchEnd (at_ := e) h).2
  unfold switchEndOf
  dsimp only
  split
  · split
    · exact (activeLaw_switchEnd (activeLaw_applicationPoint hend)).1
    · exact activeLaw_applicationPoint hend
  · exact activeLaw_applicationPoint (activeLaw_switchEnd hend).1

theorem activeLaw_pacerFrameStart {s : State} (h : s.ActiveLaw) : (pacerFrameStart s).ActiveLaw :=
  activeLaw_of_same h (holding_pacerFrameStart s) (by simp) (by simp) (by simp)

theorem activeLaw_deliverFrameStart {s : State} (h : s.ActiveLaw) : (deliverFrameStart s).ActiveLaw := by
  have hp := activeLaw_pacerFrameStart h
  unfold deliverFrameStart
  split
  · exact hp
  · unfold launchAtOnce
    split
    · split
      · exact activeLaw_launchPending hp
      · exact hp
    · exact hp

end Sys2Proof.Proofs.ActiveRecordSteps
end

section
/-! PROOFS. The law of the ACTIVE record through the monitor's occurrences, the requests and every command (R35, R45). -/

namespace Sys2Proof.Proofs.ActiveRecordKept

open Sys2Proof Sys2Proof.Machine Sys2Proof.Cert
open Sys2Proof.Proofs.Basics Sys2Proof.Proofs.ActiveRecord Sys2Proof.Proofs.ActiveRecordSteps

/-! ### The monitor -/

/-- Leaving STANDBY or REST keeps the law: no record is ACTIVE there, and the lookup that follows may activate one. -/
theorem activeLaw_leaveRest {s : State} (h : NoneActive s) : (leaveRest s).ActiveLaw :=
  activeLaw_requestLookup (activeLaw_of_noneActive (noneActive_congr h (by simp) (by simp)))

/-- A settle keeps the law: no record is ACTIVE before it, and after its lookup one can be only in LIVE (R9). -/
theorem activeLaw_settle {s : State} (h : NoneActive s) : (settle s).ActiveLaw := by
  unfold settle
  dsimp only
  have hlookup : ∀ m, (requestLookup (deliver .settled (s.setMon m))).ActiveLaw := fun m =>
    activeLaw_requestLookup (activeLaw_of_noneActive (noneActive_congr h (by simp) (by simp)))
  split
  · next hrest => exact activeLaw_leaveRest (noneActive_of_states (hlookup _) (.inl (by simp [hrest.1])))
  · exact hlookup _

theorem activeLaw_candidateEnd {f : SourceFrame} {s : State} (h : NoneActive s) : (candidateEnd f s).ActiveLaw := by
  unfold candidateEnd
  split
  · exact activeLaw_of_noneActive (noneActive_congr h (by simp) (by simp))
  · split
    · exact activeLaw_settle (noneActive_congr h (by simp) (by simp))
    · exact activeLaw_of_noneActive (noneActive_congr h (by simp) (by simp))

theorem activeLaw_frameEndActs {f : SourceFrame} {s : State} (h : s.ActiveLaw) : (frameEndActs f s).ActiveLaw := by
  unfold frameEndActs
  split
  · exact h
  · next hm =>
    have hn := noneActive_of_states h (.inr (by simp [hm]))
    split <;> exact activeLaw_of_noneActive (noneActive_congr hn (by simp) (by simp))
  · next hm => exact activeLaw_candidateEnd (noneActive_of_states h (.inr (by simp [hm])))
  · split
    · exact activeLaw_candidateEnd (noneActive_declareChange h)
    · exact activeLaw_congr h (holding_congr (by simp)) (by simp) (by simp) (by simp) fun r => rfl

theorem activeLaw_frameEnd {s : State} (h : s.ActiveLaw) : (frameEnd s).ActiveLaw := by
  unfold frameEnd
  split
  · exact h
  · split
    · exact h
    · exact activeLaw_frameEndActs (activeLaw_congr h (holding_congr rfl) rfl rfl rfl fun r => rfl)

theorem activeLaw_acceptFrameStart {format : Format} {depth : Depth} {vrr game : Bool} {s : State} (h : s.ActiveLaw) :
    (acceptFrameStart format depth vrr game s).ActiveLaw := by
  have hbegun : (beginSourceFrame format depth vrr game (recordPeriod (frameEnd s))).ActiveLaw :=
    activeLaw_congr (activeLaw_frameEnd h) (holding_congr (by simp)) (by simp) (by simp) (by simp) fun r => rfl
  have hchange : (sampleChange format depth vrr (beginSourceFrame format depth vrr game
      (recordPeriod (frameEnd s)))).ActiveLaw := by
    unfold sampleChange
    split
    · exact activeLaw_of_noneActive (noneActive_declareChange hbegun)
    · exact hbegun
  unfold acceptFrameStart
  refine activeLaw_deliverFrameStart (activeLaw_congr hchange (holding_congr (by simp)) (by simp) (by simp) (by simp) ?_)
  intro r
  unfold sampleGame
  split <;> rfl

theorem activeLaw_frameStart {ok : Bool} {format : Format} {depth : Depth} {vrr game : Bool} {s : State}
    (h : s.ActiveLaw) : (frameStart ok format depth vrr game s).ActiveLaw := by
  unfold frameStart
  split
  · exact h
  · split
    · next hm =>
      have hn := noneActive_of_states h (.inr (by simp [hm]))
      split
      · exact activeLaw_acceptFrameStart (activeLaw_of_noneActive (noneActive_congr hn (by simp) (by simp)))
      · exact h
    all_goals exact activeLaw_acceptFrameStart h

theorem activeLaw_closeAtLineStart {l : SourceLine} {s : State} (h : s.ActiveLaw) : (closeAtLineStart l s).ActiveLaw := by
  unfold closeAtLineStart
  have hclosed : ∀ f : Option SourceFrame, (s.setMon { s.mon with frame := f, line := none }).ActiveLaw := fun f =>
    activeLaw_congr h (holding_congr rfl) rfl rfl rfl fun r => rfl
  dsimp only
  split
  · split
    · exact activeLaw_of_noneActive (noneActive_declareChange (hclosed _))
    · exact hclosed _
  · split
    · split
      · exact activeLaw_frameEnd h
      · exact h
    · exact h

theorem activeLaw_lineStart {s : State} (h : s.ActiveLaw) : (lineStart s).ActiveLaw := by
  have hline : ∀ {x : State} (l : Option SourceLine) (u : List LineRef), x.ActiveLaw →
      (x.setMon { x.mon with line := l, uncompleted := u }).ActiveLaw := fun l u hx =>
    activeLaw_congr hx (holding_congr rfl) rfl rfl rfl fun r => rfl
  unfold lineStart
  split
  · dsimp only
    split
    · exact hline _ _ (activeLaw_closeAtLineStart h)
    · exact hline _ _ h
  · exact h

theorem holding_storeLineStart (start i : Nat) (s : State) : holding (storeLineStart start i s) = holding s := by
  unfold storeLineStart
  split
  · exact holding_report _ _
  · rfl

theorem activeLaw_storeLineStart {start i : Nat} {s : State} (h : s.ActiveLaw) : (storeLineStart start i s).ActiveLaw :=
  activeLaw_of_same h (holding_storeLineStart start i s) (by simp) (by simp) (by simp)

theorem activeLaw_activeLineChange {i ls : Nat} {s : State} (h : s.ActiveLaw) : (activeLineChange i ls s).ActiveLaw := by
  unfold activeLineChange
  split
  · exact activeLaw_of_noneActive (noneActive_declareChange h)
  · exact h

theorem activeLaw_activeLineStart {storeFirst : Bool} {s : State} (h : s.ActiveLaw) :
    (activeLineStart storeFirst s).ActiveLaw := by
  have hbegun : ∀ f l, (s.setMon { s.mon with frame := f, line := l }).ActiveLaw := fun f l =>
    activeLaw_congr h (holding_congr rfl) rfl rfl rfl fun r => rfl
  unfold activeLineStart
  split
  · split
    · dsimp only
      split
      · exact activeLaw_activeLineChange (activeLaw_storeLineStart (hbegun _ _))
      · exact activeLaw_storeLineStart (activeLaw_activeLineChange (hbegun _ _))
    · exact h
  · exact h

/-- A change declared or not keeps the law, whatever is tested. -/
theorem activeLaw_changeTest {p : Prop} [Decidable p] {x : State} (h : x.ActiveLaw) :
    (if p then declareChange x else x).ActiveLaw := by
  split
  · exact activeLaw_of_noneActive (noneActive_declareChange h)
  · exact h

theorem activeLaw_pixelTransfer {ps : List RawPixel} {s : State} (h : s.ActiveLaw) : (pixelTransfer ps s).ActiveLaw := by
  have hcounted : ∀ {x : State} (l : Option SourceLine), x.ActiveLaw → (x.setMon { x.mon with line := l }).ActiveLaw :=
    fun l hx => activeLaw_congr hx (holding_congr rfl) rfl rfl rfl fun r => rfl
  have hstored : ∀ l : LineStore, (s.setStore l).ActiveLaw := fun l => activeLaw_of_same h (holding_congr rfl) rfl rfl rfl
  unfold pixelTransfer
  split
  · next l _ =>
    split
    · cases l.complete
      · exact activeLaw_changeTest (hcounted _ (hstored _))
      · exact activeLaw_changeTest (hcounted _ h)
    · exact h
  · exact h

theorem activeLaw_lineComplete {s : State} (h : s.ActiveLaw) : (lineComplete s).ActiveLaw :=
  activeLaw_congr h (holding_congr (by simp)) (by simp) (by simp) (by simp) fun r => by simp

/-! ### The panel frame and the wire -/

theorem activeLaw_panelLine {f : PanelFrame} {s : State} (h : s.ActiveLaw) : (panelLine f s).ActiveLaw := by
  have hbase : holding (baseLine f s).1 = holding s := by
    unfold baseLine
    split
    · rfl
    · rfl
    · split
      · rfl
      · dsimp only
        split
        · exact holding_report _ _
        · rfl
  have hline : holding (panelLine f s) = holding s := by
    rw [← hbase]
    unfold panelLine
    dsimp only
    split <;> exact holding_congr (by simp)
  exact activeLaw_of_same h hline (by simp) (by simp) (by simp)

theorem activeLaw_scanEndOf {f : PanelFrame} {s : State} (h : s.ActiveLaw) : (scanEndOf f s).ActiveLaw := by
  unfold scanEndOf
  exact activeLaw_applicationPoint
    (activeLaw_of_same h (holding_congr (by simp)) (by simp) (by simp) (by simp))

theorem activeLaw_endTrail {at_ : Nat} {s : State} (h : s.ActiveLaw) : (endTrail at_ s).ActiveLaw :=
  activeLaw_of_same h (holding_congr (by simp)) (by simp) (by simp) (by simp)

theorem activeLaw_wireEvent {ev : WireEvent} {s : State} (h : s.ActiveLaw) : (wireEvent ev s).ActiveLaw :=
  activeLaw_of_same h (holding_congr (by simp)) (by simp) (by simp) (by simp)

theorem activeLaw_completeStartup {s : State} (h : s.ActiveLaw) : (completeStartup s).ActiveLaw :=
  activeLaw_of_same h (holding_congr (by simp)) (by simp) (by simp) (by simp)

/-! ### Requests -/

theorem activeLaw_finish {code : Byte} {a : Answer} (h : a.st.ActiveLaw) : (finish code a).ActiveLaw :=
  activeLaw_of_same h (holding_congr rfl) rfl rfl rfl

/-- A request served keeps the law when its body does. -/
theorem activeLaw_serve {code : Byte} {body : List Byte → State → Answer} {t : Nat} {s : State} (h : s.ActiveLaw)
    (hbody : ∀ ps, (body ps (tick t s)).st.ActiveLaw) : (serve code body t s).ActiveLaw := by
  unfold serve
  split
  · split
    · exact activeLaw_finish (hbody _)
    · exact h
  · exact h

theorem activeLaw_of_stages {a : Answer} {s : State} (h : s.ActiveLaw) (ha : RefusesOrStages a s) : a.st.ActiveLaw := by
  obtain ha | ⟨e, data, ps, rfl⟩ := ha
  · rwa [ha]
  · unfold stageEdit
    split
    · exact h
    · exact activeLaw_settlePacer (activeLaw_acceptEdit h)

theorem activeLaw_bodyStart {ps : List Byte} {s : State} (h : s.ActiveLaw) : (bodyStart ps s).st.ActiveLaw := by
  simp only [bodyStart]
  split
  · exact h
  split
  · exact h
  split
  · exact h
  next hstandby =>
  split
  · exact h
  have hn := noneActive_of_states h (.inl (by simp_all))
  refine activeLaw_settlePacer (activeLaw_leaveRest ?_)
  split
  · exact hn
  · exact noneActive_congr hn (by simp) (by simp)

theorem activeLaw_goStandby {s : State} (h : s.ActiveLaw) : (goStandby s).ActiveLaw := by
  unfold goStandby
  split
  · exact h
  · exact activeLaw_of_noneActive (noneActive_congr (noneActive_withdrawActive s) (by simp) (by simp))
  all_goals
    next hp =>
      exact activeLaw_of_noneActive
        (noneActive_congr (noneActive_of_states h (.inl (by simp [hp]))) (by simp) (by simp))

theorem activeLaw_bodyStandby {ps : List Byte} {s : State} (h : s.ActiveLaw) : (bodyStandby ps s).st.ActiveLaw := by
  unfold bodyStandby
  split
  · exact h
  · exact activeLaw_goStandby h

theorem activeLaw_bodyWake {ps : List Byte} {s : State} (h : s.ActiveLaw) : (bodyWake ps s).st.ActiveLaw := by
  unfold bodyWake
  split
  · exact h
  split
  · exact h
  next hrest =>
  split
  · exact h
  exact activeLaw_settlePacer (activeLaw_leaveRest (noneActive_of_states h (.inl (by simp_all))))

theorem noneActive_partReset (s : State) : NoneActive (partReset s) := by
  have hcat : (partReset s).cat = s.cat.map ModeRecord.partReset := by simp [partReset]
  have hplan : (partReset s).plan = none := by simp [partReset]
  refine ⟨fun r hr => ?_, hplan⟩
  rw [hcat] at hr
  obtain ⟨x, -, rfl⟩ := List.mem_map.mp hr
  simp only [ModeRecord.partReset]
  split <;> simp_all

theorem activeLaw_bodyResetPart {ps : List Byte} {s : State} (h : s.ActiveLaw) :
    (bodyResetPart ps s).st.ActiveLaw := by
  unfold bodyResetPart
  split
  · exact h
  · exact activeLaw_of_noneActive (noneActive_partReset s)

theorem activeLaw_bodyGroupClose {ps : List Byte} {s : State} (h : s.ActiveLaw) :
    (bodyGroupClose ps s).st.ActiveLaw := by
  have hclosed : (s.setStage { s.stage with groupOpen := false }).ActiveLaw :=
    activeLaw_of_same h (holding_congr rfl) rfl rfl rfl
  unfold bodyGroupClose
  split
  · exact h
  split
  · exact h
  show (closeGroup s).1.ActiveLaw
  unfold closeGroup
  dsimp only
  split
  · exact activeLaw_settlePacer (activeLaw_applicationPoint hclosed)
  · exact activeLaw_settlePacer (activeLaw_applicationPoint hclosed)
  all_goals exact hclosed

theorem activeLaw_bodyCatStats {ps : List Byte} {s : State} (h : s.ActiveLaw) : (bodyCatStats ps s).st.ActiveLaw := by
  refine activeLaw_of_same h ?_ (by simp) (by simp) (by simp)
  simp only [bodyCatStats]
  split
  · rfl
  split
  · rfl
  split
  · rfl
  split
  · rfl
  show holding (if _ then clearStats _ s else s) = holding s
  split
  · exact holding_setRecord rfl rfl
  · rfl

theorem activeLaw_bodyCatLock {ps : List Byte} {s : State} (h : s.ActiveLaw) : (bodyCatLock ps s).st.ActiveLaw := by
  refine activeLaw_of_same h ?_ (by simp) (by simp) (by simp)
  simp only [bodyCatLock]
  split
  · rfl
  split
  · rfl
  · exact holding_setRecord rfl rfl

/-- A body that leaves what the law reads keeps the law. -/
theorem activeLaw_of_body {a : Answer} {s : State} (h : s.ActiveLaw) (hcat : a.st.cat = s.cat := by simp)
    (hplan : a.st.plan = s.plan := by simp) (hpacer : a.st.pacer.state = s.pacer.state := by simp)
    (hmon : a.st.mon.state = s.mon.state := by simp) (hobs : a.st.mon.obs = s.mon.obs := by simp) : a.st.ActiveLaw :=
  activeLaw_congr h (holding_congr hcat) hplan hpacer hmon fun r => by rw [hobs]

/-! ### Every command -/

theorem activeLaw_exec {c : Instr} {s s' : State} (h : s.ActiveLaw) (hc : exec c s = .next s') : s'.ActiveLaw := by
  have ht : ∀ t, (tick t s).ActiveLaw := fun t => activeLaw_tick h
  cases c with
  | externalReset t csLow =>
    cases hc
    refine activeLaw_of_noneActive ⟨fun r hr => ?_, rfl⟩
    rw [List.eq_of_mem_replicate hr]
    simp [ModeRecord.free]
  | startupComplete t => cases hc; exact activeLaw_completeStartup (ht t)
  | sourceFrameStart t ok format depth vrr game => cases hc; exact activeLaw_settlePacer (activeLaw_frameStart (ht t))
  | lineStart t => cases hc; exact activeLaw_settlePacer (activeLaw_lineStart (ht t))
  | activeLineStart t storeFirst => cases hc; exact activeLaw_settlePacer (activeLaw_activeLineStart (ht t))
  | pixelTransfer t l0 l1 l2 l3 => cases hc; exact activeLaw_settlePacer (activeLaw_pixelTransfer (ht t))
  | lineComplete t => cases hc; exact activeLaw_settlePacer (activeLaw_lineComplete (ht t))
  | signalOkFall t =>
    cases hc
    refine activeLaw_settlePacer ?_
    unfold lossFrom
    split
    · exact activeLaw_declareLoss (ht t)
    · exact ht t
  | frameStartTimerExpiry =>
    simp only [exec, execFrameStartTimerExpiry] at hc
    split at hc <;> cases hc
    · exact activeLaw_settlePacer (activeLaw_declareLoss (ht _))
    · exact h
  | liveLaunch =>
    simp only [exec, execLiveLaunch] at hc
    split at hc <;> cases hc
    · exact activeLaw_settlePacer (activeLaw_launchPending (ht _))
    · exact h
  | predictedRedraw =>
    simp only [exec, execPredictedRedraw] at hc
    split at hc <;> cases hc
    · exact activeLaw_settlePacer (activeLaw_takeEntry (ht _))
    · exact h
  | periodicLaunch =>
    simp only [exec, execPeriodicLaunch] at hc
    split at hc
    · cases hc
      exact activeLaw_settlePacer (activeLaw_takeEntry (ht _))
    · split at hc <;> cases hc
      · exact activeLaw_settlePacer (activeLaw_launchFirst (ht _))
      · exact h
  | forcedDeadline =>
    simp only [exec, execForcedDeadline] at hc
    split at hc <;> cases hc
    · exact activeLaw_settlePacer (activeLaw_takeForced (ht _))
    · exact h
  | holdTimerExpiry =>
    simp only [exec, execHoldTimerExpiry] at hc
    split at hc <;> cases hc
    · next e hp _ =>
      have hn := noneActive_of_states (ht e) (.inl (by simp [hp]))
      exact activeLaw_of_noneActive (noneActive_congr hn (by simp) (by simp))
    · exact h
  | restTimerExpiry =>
    simp only [exec, execRestTimerExpiry] at hc
    split at hc <;> cases hc
    · next e hp _ =>
      have hn := noneActive_of_states (ht e) (.inl (by simp [hp]))
      exact activeLaw_of_noneActive (noneActive_congr hn (by simp) (by simp))
    · exact h
  | panelLineStart =>
    simp only [exec, execPanelLineStart] at hc
    split at hc
    · split at hc <;> cases hc
      · exact activeLaw_panelLine (ht _)
      · exact h
    · cases hc; exact h
  | scanEnd =>
    simp only [exec, execScanEnd] at hc
    split at hc <;> cases hc
    · exact activeLaw_settlePacer (activeLaw_scanEndOf (ht _))
    · exact h
  | trailEnd =>
    simp only [exec, execTrailEnd] at hc
    split at hc <;> cases hc
    · exact activeLaw_settlePacer (activeLaw_endTrail (ht _))
    · exact h
  | switchEnd stageFirst =>
    simp only [exec, execSwitchEnd] at hc
    split at hc <;> cases hc
    · exact activeLaw_settlePacer (activeLaw_switchEndOf (ht _))
    · exact h
    · exact h
  | post t ev => cases hc; exact activeLaw_wireEvent (ht t)
  | malformedPost t ev => cases hc; exact activeLaw_wireEvent (ht t)
  | fetch t ev => cases hc; exact activeLaw_wireEvent (ht t)
  | statusOnly t ev => cases hc; exact activeLaw_wireEvent (ht t)
  | unknownCode t =>
    cases hc
    unfold serveUnknown
    split
    · split
      · exact h
      · exact activeLaw_finish (ht t)
    · exact h
  | echo t => cases hc; exact activeLaw_serve h fun ps => ht t
  | identify t => cases hc; exact activeLaw_serve h fun ps => activeLaw_of_body (ht t)
  | start t => cases hc; exact activeLaw_serve h fun ps => activeLaw_bodyStart (ht t)
  | standby t => cases hc; exact activeLaw_serve h fun ps => activeLaw_bodyStandby (ht t)
  | wake t => cases hc; exact activeLaw_serve h fun ps => activeLaw_bodyWake (ht t)
  | resetPart t => cases hc; exact activeLaw_serve h fun ps => activeLaw_bodyResetPart (ht t)
  | eventMask t => cases hc; exact activeLaw_serve h fun ps => activeLaw_of_body (ht t)
  | eventRead t => cases hc; exact activeLaw_serve h fun ps => activeLaw_of_body (ht t)
  | groupOpen t => cases hc; exact activeLaw_serve h fun ps => activeLaw_of_body (ht t)
  | groupClose t => cases hc; exact activeLaw_serve h fun ps => activeLaw_bodyGroupClose (ht t)
  | catStore t => cases hc; exact activeLaw_serve h fun ps => activeLaw_of_stages (ht t) (bodyCatStore_refusesOrStages ps _)
  | catRetire t => cases hc; exact activeLaw_serve h fun ps => activeLaw_of_stages (ht t) (bodyCatRetire_refusesOrStages ps _)
  | catRead t => cases hc; exact activeLaw_serve h fun ps => activeLaw_of_body (ht t)
  | catStats t => cases hc; exact activeLaw_serve h fun ps => activeLaw_bodyCatStats (ht t)
  | catFind t => cases hc; exact activeLaw_serve h fun ps => by rw [bodyCatFind_st]; exact ht t
  | catLock t => cases hc; exact activeLaw_serve h fun ps => activeLaw_bodyCatLock (ht t)
  | catList t => cases hc; exact activeLaw_serve h fun ps => activeLaw_of_body (ht t)
  | winDefine t => cases hc; exact activeLaw_serve h fun ps => activeLaw_of_stages (ht t) (bodyWinDefine_refusesOrStages ps _)
  | winPlace t => cases hc; exact activeLaw_serve h fun ps => activeLaw_of_stages (ht t) (bodyWinPlace_refusesOrStages ps _)
  | winShow t => cases hc; exact activeLaw_serve h fun ps => activeLaw_of_stages (ht t) (bodyWinShow_refusesOrStages ps _)
  | winRetire t => cases hc; exact activeLaw_serve h fun ps => activeLaw_of_stages (ht t) (bodyWinRetire_refusesOrStages ps _)
  | winRead t => cases hc; exact activeLaw_serve h fun ps => by rw [bodyWinRead_st]; exact ht t
  | imgWrite t => cases hc; exact activeLaw_serve h fun ps => activeLaw_of_body (ht t)
  | imgRead t => cases hc; exact activeLaw_serve h fun ps => activeLaw_of_body (ht t)
  | profileSet t => cases hc; exact activeLaw_serve h fun ps => activeLaw_of_body (ht t)
  | profileRead t => cases hc; exact activeLaw_serve h fun ps => activeLaw_of_body (ht t)
  | setTimers t => cases hc; exact activeLaw_serve h fun ps => activeLaw_of_body (ht t)
  | setFill t => cases hc; exact activeLaw_serve h fun ps => activeLaw_of_stages (ht t) (bodySetFill_refusesOrStages ps _)
  | observe t => cases hc; exact activeLaw_serve h fun ps => activeLaw_of_body (ht t)
  | pacingRead t => cases hc; exact activeLaw_serve h fun ps => activeLaw_of_body (ht t)
  | csnSeenHigh t => cases hc; exact activeLaw_of_same h (holding_congr rfl) rfl rfl rfl

/-- Settles O57: each command keeps the law, and a step runs a command or idles. -/
theorem stepKeepsActiveLaw : Obligations.StepKeepsActiveLaw := by
  intro s s' h hstep
  unfold step at hstep
  split at hstep
  · cases hstep
    exact h
  · next c rest _ =>
    have hrest : State.ActiveLaw { s with pending := rest } := activeLaw_of_same h (holding_congr rfl) rfl rfl rfl
    exact activeLaw_exec hrest hstep

end Sys2Proof.Proofs.ActiveRecordKept
end

section
/-! PROOFS. The cleared monitor of NO_SIGNAL (R5, R6, R12): outside a loss no occurrence brings the monitor to NO_SIGNAL, and
in NO_SIGNAL nothing but the loss latch is touched. -/

namespace Sys2Proof.Proofs.NoSignal

open Sys2Proof Sys2Proof.Machine Sys2Proof.Cert
open Sys2Proof.Proofs.Basics

/-! ### What the monitor's operations leave of the monitor -/

theorem declareChange_mon (s : State) :
    (declareChange s).mon = { s.mon with state := .candidate, periods := [] } := by
  simp [declareChange, setMonState, clearPeriods]

theorem settle_mon (s : State) :
    (settle s).mon = { s.mon with state := .settled, obs := { s.mon.obs with sinceSettle := 0 } } := by
  simp only [settle]
  split <;> simp

theorem declareLoss_mon (s : State) :
    (declareLoss s).mon = if s.mon.state = .noSignal then s.mon else { Monitor.reset with lossLatch := true } := by
  unfold declareLoss
  split <;> simp_all

/-- A monitor operation that does not bring NO_SIGNAL about, and enters no period beyond the fourth (R14). -/
def MonitorKept (s s' : State) : Prop :=
  (s.mon.state ≠ .noSignal → s'.mon.state ≠ .noSignal) ∧ (s.mon.periods.length ≤ 4 → s'.mon.periods.length ≤ 4)

theorem MonitorKept.refl (s : State) : MonitorKept s s := ⟨id, id⟩

theorem MonitorKept.trans {s s' s'' : State} (h : MonitorKept s s') (h' : MonitorKept s' s'') : MonitorKept s s'' :=
  ⟨h'.1 ∘ h.1, h'.2 ∘ h.2⟩

theorem MonitorKept.of_eq {s s' : State} (h : s'.mon = s.mon) : MonitorKept s s' := by
  simp [MonitorKept, h]

/-- Only the state and the period list matter. -/
theorem MonitorKept.of_same {s s' : State} (hs : s'.mon.state = s.mon.state) (hp : s'.mon.periods = s.mon.periods) :
    MonitorKept s s' := by simp [MonitorKept, hs, hp]

theorem MonitorKept.after {s x s' : State} (h : MonitorKept x s') (hs : x.mon.state = s.mon.state)
    (hp : x.mon.periods = s.mon.periods) : MonitorKept s s' :=
  (MonitorKept.of_same hs hp).trans h

theorem declareChange_kept (s : State) : MonitorKept s (declareChange s) := by
  simp [MonitorKept, declareChange_mon]

theorem settle_kept (s : State) : MonitorKept s (settle s) := by simp [MonitorKept, settle_mon]

theorem candidateEnd_kept (f : SourceFrame) (s : State) : MonitorKept s (candidateEnd f s) := by
  unfold candidateEnd
  split
  · simp [MonitorKept, setMonState, clearPeriods]
  · split
    · exact (settle_kept (takeIn f s)).after rfl rfl
    · simp [MonitorKept, takeIn, clearPeriods]

theorem frameEndActs_kept (f : SourceFrame) (s : State) : MonitorKept s (frameEndActs f s) := by
  unfold frameEndActs
  split
  · exact .refl s
  · split <;> simp [MonitorKept, setMonState, takeIn, clearPeriods]
  · exact candidateEnd_kept f s
  · split
    · exact (declareChange_kept s).trans (candidateEnd_kept f _)
    · exact .of_same rfl rfl

theorem frameEnd_kept (s : State) : MonitorKept s (frameEnd s) := by
  unfold frameEnd
  split
  · exact .refl s
  · split
    · exact .refl s
    · exact (frameEndActs_kept _ _).after rfl rfl

theorem recordPeriod_kept (s : State) : MonitorKept s (recordPeriod s) := by
  refine ⟨id, fun h => ?_⟩
  unfold recordPeriod
  rw [setMon_mon]
  dsimp only
  split
  · exact enterPeriod_length _ _ h
  · exact h

theorem acceptFrameStart_kept (format : Format) (depth : Depth) (vrr game : Bool) (s : State) :
    MonitorKept s (acceptFrameStart format depth vrr game s) := by
  have hbegun : MonitorKept s (beginSourceFrame format depth vrr game (recordPeriod (frameEnd s))) :=
    ((frameEnd_kept s).trans (recordPeriod_kept _)).trans (.of_same rfl rfl)
  have hchange : ∀ x, MonitorKept x (sampleChange format depth vrr x) := fun x => by
    unfold sampleChange
    split
    · exact declareChange_kept x
    · exact .refl x
  have hgame : ∀ x, MonitorKept x (sampleGame game x) := fun x => by
    unfold sampleGame
    split
    · exact .refl x
    · exact .of_same rfl rfl
  exact ((hbegun.trans (hchange _)).trans (hgame _)).trans (.of_eq (s' := acceptFrameStart _ _ _ _ s) (by
    simp [acceptFrameStart]))

theorem closeAtLineStart_kept (l : SourceLine) (s : State) : MonitorKept s (closeAtLineStart l s) := by
  unfold closeAtLineStart
  split
  · dsimp only
    split
    · exact (declareChange_kept _).after rfl rfl
    · exact .of_same rfl rfl
  · split
    · split
      · exact frameEnd_kept s
      · exact .refl s
    · exact .refl s

/-- A line start is ignored, or leaves the monitor outside NO_SIGNAL (R2). -/
theorem lineStart_kept (s : State) : MonitorKept s (lineStart s) := by
  unfold lineStart
  split
  · cases s.mon.line with
    | none => exact .of_same rfl rfl
    | some l => exact (closeAtLineStart_kept l s).trans (.of_same rfl rfl)
  · exact .refl s

theorem activeLineChange_kept (i ls : Nat) (s : State) : MonitorKept s (activeLineChange i ls s) := by
  unfold activeLineChange
  split
  · exact declareChange_kept s
  · exact .refl s

theorem activeLineStart_kept (storeFirst : Bool) (s : State) : MonitorKept s (activeLineStart storeFirst s) := by
  unfold activeLineStart
  split
  · split
    · dsimp only
      split
      · exact (activeLineChange_kept _ _ _).after (by simp) (by simp)
      · refine MonitorKept.trans ?_ (.of_eq (storeLineStart_frame _ _ _).2.2.1)
        exact (activeLineChange_kept _ _ _).after rfl rfl
    · exact .refl s
  · exact .refl s

theorem changeTest_kept {p : Prop} [Decidable p] (s : State) : MonitorKept s (if p then declareChange s else s) := by
  split
  · exact declareChange_kept s
  · exact .refl s

theorem pixelTransfer_kept (ps : List RawPixel) (s : State) : MonitorKept s (pixelTransfer ps s) := by
  unfold pixelTransfer
  split
  · next l _ =>
    split
    · dsimp only
      exact (changeTest_kept _).after (by cases l.complete <;> rfl) (by cases l.complete <;> rfl)
    · exact .refl s
  · exact .refl s

/-! ### In NO_SIGNAL -/

/-- The cleared monitor is kept where the monitor stands, where it is out of NO_SIGNAL, and where a loss or a reset clears
it. -/
theorem cleared_of_mon {s s' : State} (h : ClearedInNoSignal s) (hm : s'.mon = s.mon) : ClearedInNoSignal s' := by
  simpa [ClearedInNoSignal, hm] using h

theorem cleared_of_signal {s' : State} (h : s'.mon.state ≠ .noSignal) : ClearedInNoSignal s' := fun hs => absurd hs h

theorem cleared_of_reset {s' : State} {b : Bool} (h : s'.mon = { Monitor.reset with lossLatch := b }) :
    ClearedInNoSignal s' := fun _ => by rw [h]; rfl

theorem cleared_settlePacer {s : State} (h : ClearedInNoSignal s) : ClearedInNoSignal (settlePacer s) :=
  cleared_of_mon h (by simp)

/-- An occurrence that is ignored where there is no signal to watch, and otherwise does not bring NO_SIGNAL about. -/
theorem cleared_of_watched {s s' : State} (h : ClearedInNoSignal s) (hk : MonitorKept s s')
    (hno : s.mon.state = .noSignal → s' = s) : ClearedInNoSignal s' := by
  by_cases hs : s.mon.state = .noSignal
  · rwa [hno hs]
  · exact cleared_of_signal (hk.1 hs)

theorem watching_eq_false {s : State} (h : s.mon.state = .noSignal) : watching s = false := by simp [watching, h]

theorem cleared_frameStart {ok : Bool} {format : Format} {depth : Depth} {vrr game : Bool} {s : State}
    (h : ClearedInNoSignal s) : ClearedInNoSignal (frameStart ok format depth vrr game s) := by
  have haccept : ∀ x : State, x.mon.state ≠ .noSignal → ClearedInNoSignal (acceptFrameStart format depth vrr game x) :=
    fun x hx => cleared_of_signal ((acceptFrameStart_kept format depth vrr game x).1 hx)
  unfold frameStart
  split
  · exact h
  · split
    · split
      · exact haccept _ (by simp [signalAppears, setMonState])
      · exact h
    all_goals
      next hs => exact haccept s (by simp [hs])

theorem cleared_declareLoss {s : State} (h : ClearedInNoSignal s) : ClearedInNoSignal (declareLoss s) := by
  by_cases hs : s.mon.state = .noSignal
  · exact cleared_of_mon h (by rw [declareLoss_mon, if_pos hs])
  · exact cleared_of_reset (b := true) (by rw [declareLoss_mon, if_neg hs])

theorem cleared_lineComplete {s : State} (h : ClearedInNoSignal s) : ClearedInNoSignal (lineComplete s) := by
  by_cases hs : s.mon.state = .noSignal
  · rwa [lineComplete, watching_eq_false hs]
  · exact cleared_of_signal (by simpa using hs)

/-! ### Requests -/

theorem cleared_serve {code : Byte} {body : List Byte → State → Answer} {t : Nat} {s : State} (h : ClearedInNoSignal s)
    (hbody : ∀ ps, ClearedInNoSignal (body ps (tick t s)).st) : ClearedInNoSignal (serve code body t s) := by
  unfold serve
  split
  · split
    · exact cleared_of_mon (hbody _) rfl
    · exact h
  · exact h

/-- A request whose body leaves the monitor alone. -/
theorem cleared_serve_of_mon {code : Byte} {body : List Byte → State → Answer} {t : Nat} {s : State}
    (h : ClearedInNoSignal s) (hmon : ∀ ps x, (body ps x).st.mon = x.mon) : ClearedInNoSignal (serve code body t s) :=
  cleared_serve h fun ps => cleared_of_mon h (by simp [hmon])

theorem cleared_bodyObserve {ps : List Byte} {s : State} (h : ClearedInNoSignal s) :
    ClearedInNoSignal (bodyObserve ps s).st := by
  unfold bodyObserve
  split
  · exact h
  · exact fun hs => congrArg (fun m : Monitor => { m with lossLatch := false }) (h hs)

theorem cleared_bodyResetPart {ps : List Byte} {s : State} (h : ClearedInNoSignal s) :
    ClearedInNoSignal (bodyResetPart ps s).st := by
  unfold bodyResetPart
  split
  · exact h
  · exact cleared_of_reset (b := false) (by simp [accept, partReset, Monitor.reset])

/-! ### Every command -/

theorem cleared_exec {c : Instr} {s s' : State} (h : ClearedInNoSignal s) (hc : exec c s = .next s') :
    ClearedInNoSignal s' := by
  have ht : ∀ t, ClearedInNoSignal (tick t s) := fun t => h
  cases c with
  | externalReset t csLow => cases hc; exact cleared_of_reset (b := false) rfl
  | sourceFrameStart t ok format depth vrr game => cases hc; exact cleared_settlePacer (cleared_frameStart (ht t))
  | lineStart t =>
    cases hc
    exact cleared_settlePacer (cleared_of_watched (ht t) (lineStart_kept _) fun hs => by
      simp [lineStart, watching_eq_false hs])
  | activeLineStart t storeFirst =>
    cases hc
    refine cleared_settlePacer (cleared_of_watched (ht t) (activeLineStart_kept _ _) fun hs => ?_)
    unfold activeLineStart
    split <;> simp [watching_eq_false hs]
  | pixelTransfer t l0 l1 l2 l3 =>
    cases hc
    refine cleared_settlePacer (cleared_of_watched (ht t) (pixelTransfer_kept _ _) fun hs => ?_)
    unfold pixelTransfer
    split <;> simp [watching_eq_false hs]
  | lineComplete t => cases hc; exact cleared_settlePacer (cleared_lineComplete (ht t))
  | signalOkFall t =>
    cases hc
    refine cleared_settlePacer ?_
    unfold lossFrom
    split
    · exact cleared_declareLoss (ht t)
    · exact ht t
  | frameStartTimerExpiry =>
    simp only [exec, execFrameStartTimerExpiry] at hc
    split at hc <;> cases hc
    · exact cleared_settlePacer (cleared_declareLoss (ht _))
    · exact h
  | resetPart t => cases hc; exact cleared_serve h fun ps => cleared_bodyResetPart (ht t)
  | observe t => cases hc; exact cleared_serve h fun ps => cleared_bodyObserve (ht t)
  | liveLaunch | predictedRedraw | forcedDeadline | holdTimerExpiry | restTimerExpiry | scanEnd | trailEnd
    | switchEnd _ =>
    simp only [exec, execLiveLaunch, execPredictedRedraw, execForcedDeadline, execHoldTimerExpiry, execRestTimerExpiry,
      execScanEnd, execTrailEnd, execSwitchEnd] at hc
    split at hc <;> cases hc <;> exact cleared_of_mon h (by simp)
  | periodicLaunch =>
    simp only [exec, execPeriodicLaunch, launchFirst] at hc
    repeat' split at hc
    all_goals cases hc; exact cleared_of_mon h (by simp)
  | panelLineStart =>
    simp only [exec, execPanelLineStart] at hc
    repeat' split at hc
    all_goals cases hc; exact cleared_of_mon h (by simp)
  | unknownCode t =>
    cases hc
    unfold serveUnknown
    (repeat' split) <;> exact h
  | catFind t => cases hc; exact cleared_serve_of_mon h fun ps x => by rw [bodyCatFind_st]
  | winRead t => cases hc; exact cleared_serve_of_mon h fun ps x => by rw [bodyWinRead_st]
  | echo t => cases hc; exact cleared_serve_of_mon h fun ps x => rfl
  | identify t | start t | standby t | wake t | eventMask t | eventRead t | groupOpen t | groupClose t | catStore t
    | catRetire t | catRead t | catStats t | catLock t | catList t | winDefine t | winPlace t | winShow t | winRetire t
    | imgWrite t | imgRead t | profileSet t | profileRead t | setTimers t | setFill t | pacingRead t =>
    cases hc; exact cleared_serve_of_mon h fun ps x => by simp
  | startupComplete t | post t ev | malformedPost t ev | fetch t ev | statusOnly t ev | csnSeenHigh t =>
    cases hc; exact cleared_of_mon h (by simp)

/-- Settles O59: each command keeps the cleared monitor, and a step runs a command or idles. -/
theorem stepKeepsNoSignalCleared : Obligations.StepKeepsNoSignalCleared := by
  intro s s' h hstep
  unfold step at hstep
  split at hstep
  · cases hstep
    exact h
  · next c rest _ =>
    have hrest : ClearedInNoSignal { s with pending := rest } := h
    exact cleared_exec hrest hstep

end Sys2Proof.Proofs.NoSignal
end

section
/-! PROOFS. The bounds (R14, R88, R106, R123, R135, R146, R163, R164): what each command does to the queues, to the stage list,
to image memory, to the tables and to the period list. -/

namespace Sys2Proof.Proofs.Bounds

open Sys2Proof Sys2Proof.Machine Sys2Proof.Cert
open Sys2Proof.Proofs.Basics Sys2Proof.Proofs.NoSignal

/-! ### The queues (R163, R164) -/

/-- The capacity law reads the queues and the request in processing alone. -/
theorem capacityLaw_of_queues {s s' : State} (h : s.CapacityLaw) (hq : s'.ctl.requests = s.ctl.requests)
    (hp : s'.ctl.processing = s.ctl.processing) (hr : s'.ctl.replies.length ≤ s.ctl.replies.length) : s'.CapacityLaw := by
  obtain ⟨hcap, hidle⟩ := h
  refine ⟨?_, fun hnone => by rw [hq]; exact hidle (hp ▸ hnone)⟩
  simp only [capacityInUse, requestsHeld, hq, hp] at *
  omega

/-- A request is accepted below the capacity alone, so that it can be queued. -/
theorem capacityLaw_completePost {r : Request} {x : Txn} {s : State} (h : s.CapacityLaw) :
    (completePost r x s).CapacityLaw := by
  have hput : (putTxn { x with finding := .decided r.params.length (acceptByte s.ctl) } s).CapacityLaw :=
    capacityLaw_of_queues h rfl rfl (Nat.le_refl _)
  unfold completePost
  dsimp only
  split
  · next haccept =>
    have hbelow : capacityInUse s.ctl < 8 := by
      unfold acceptByte at haccept
      split at haccept
      · exact absurd haccept (by decide)
      · split at haccept
        · exact absurd haccept (by decide)
        · omega
    refine ⟨?_, (promote_spec _).2.2.1⟩
    have hreplies : ∀ c : ControlPort, (enqueue r c).replies = c.replies := fun c => (promote_spec _).2.1
    rw [setCtl_ctl, capacityInUse, requestsHeld_enqueue, hreplies]
    show requestsHeld s.ctl + 1 + s.ctl.replies.length ≤ 8
    unfold capacityInUse at hbelow
    omega
  · exact hput

theorem capacityLaw_readByte {x : Txn} {s : State} (h : s.CapacityLaw) : (readByte x s).CapacityLaw := by
  have hput : ∀ y, (putTxn y s).CapacityLaw := fun y => capacityLaw_of_queues h rfl rfl (Nat.le_refl _)
  have hmalformed : ∀ n y, (findMalformed n y s).CapacityLaw := fun n y =>
    capacityLaw_of_queues h rfl rfl (Nat.le_refl _)
  unfold readByte
  split
  · exact hmalformed _ _
  · unfold readPost
    split
    · exact hmalformed _ _
    · split
      · exact capacityLaw_completePost h
      · exact hput _
  · exact hput _

theorem capacityLaw_clockIn {b : Bool} {s : State} (h : s.CapacityLaw) : (clockIn b s).CapacityLaw := by
  unfold clockIn
  split
  · exact h
  · dsimp only
    split
    · exact capacityLaw_of_queues h rfl rfl (Nat.le_refl _)
    · exact capacityLaw_readByte h

theorem capacityLaw_shiftSdo {s : State} (h : s.CapacityLaw) : (shiftSdo s).CapacityLaw := by
  unfold shiftSdo
  split
  · exact h
  · exact capacityLaw_of_queues h rfl rfl (Nat.le_refl _)

theorem capacityLaw_clocks {sdi : List Bool} {s : State} (h : s.CapacityLaw) : (sdi.foldl sckPeriod s).CapacityLaw := by
  induction sdi generalizing s with
  | nil => exact h
  | cons b sdi ih => exact ih (capacityLaw_shiftSdo (capacityLaw_clockIn h))

theorem capacityLaw_riseOfCsn {s : State} (h : s.CapacityLaw) : (riseOfCsn s).CapacityLaw := by
  have hover : ∀ x, (endTxn x s).CapacityLaw := fun x => capacityLaw_of_queues h rfl rfl (Nat.le_refl _)
  unfold riseOfCsn
  split
  · exact h
  · dsimp only
    split
    · split
      · exact capacityLaw_of_queues h rfl rfl (Nat.le_refl _)
      · exact hover _
    · split
      · exact capacityLaw_of_queues h rfl rfl (by simp [endTxn])
      · exact hover _
    · exact hover _
    · exact hover _

theorem capacityLaw_wireEvent {ev : WireEvent} {s : State} (h : s.CapacityLaw) : (wireEvent ev s).CapacityLaw := by
  cases ev with
  | fall =>
    show (beginTxn s).CapacityLaw
    unfold beginTxn
    split
    · exact h
    · exact capacityLaw_of_queues h rfl rfl (Nat.le_refl _)
  | sckRise b => exact capacityLaw_clockIn h
  | sckFall => exact capacityLaw_shiftSdo h
  | clocks sdi => exact capacityLaw_clocks h
  | rise => exact capacityLaw_riseOfCsn h

/-! ### The stage list (R146, R149) -/

@[simp] theorem applyList_edits (edits : List Edit) (s : State) : (applyList edits s).stage.edits = [] := by
  simp [applyList, emptyStage]

theorem applicationPoint_edits_le (s : State) :
    (applicationPoint s).stage.edits.length ≤ s.stage.edits.length := by
  unfold applicationPoint
  split <;> simp

theorem acceptEdit_edits_le (e : Edit) (s : State) :
    (acceptEdit e s).stage.edits.length ≤ s.stage.edits.length + 1 := by
  unfold acceptEdit
  dsimp only
  split
  case h_1 | h_2 => exact (applicationPoint_edits_le _).trans (by simp)
  all_goals simp

theorem scanEndOf_edits_le (f : PanelFrame) (s : State) :
    (scanEndOf f s).stage.edits.length ≤ s.stage.edits.length :=
  (applicationPoint_edits_le _).trans (by simp)

theorem switchEndOf_edits_le (e : Nat) (stageFirst : Bool) (s : State) :
    (switchEndOf e stageFirst s).stage.edits.length ≤ s.stage.edits.length := by
  have hpoint := applicationPoint_edits_le (endSwitch e s)
  unfold switchEndOf
  dsimp only
  split
  · split <;> simpa using hpoint
  · exact (applicationPoint_edits_le _).trans (by simp)

theorem launchPending_edits_le (x : PendingLaunch) (s : State) :
    (launchPending x s).stage.edits.length ≤ s.stage.edits.length := by
  unfold launchPending
  split
  · exact (applicationPoint_edits_le _).trans (by simp)
  all_goals simp

theorem deliverFrameStart_edits_le (s : State) :
    (deliverFrameStart s).stage.edits.length ≤ s.stage.edits.length := by
  have hdecided : (pacerFrameStart s).stage.edits.length ≤ s.stage.edits.length := by simp
  unfold deliverFrameStart launchAtOnce
  split
  · exact hdecided
  · split
    · split
      · exact (launchPending_edits_le _ _).trans hdecided
      · exact hdecided
    · exact hdecided

theorem acceptFrameStart_edits_le (format : Format) (depth : Depth) (vrr game : Bool) (s : State) :
    (acceptFrameStart format depth vrr game s).stage.edits.length ≤ s.stage.edits.length :=
  (deliverFrameStart_edits_le _).trans (by simp)

theorem frameStart_edits_le (ok : Bool) (format : Format) (depth : Depth) (vrr game : Bool) (s : State) :
    (frameStart ok format depth vrr game s).stage.edits.length ≤ s.stage.edits.length := by
  unfold frameStart
  split
  · exact Nat.le_refl _
  · split
    · split
      · exact (acceptFrameStart_edits_le _ _ _ _ _).trans (by simp)
      · exact Nat.le_refl _
    all_goals exact acceptFrameStart_edits_le _ _ _ _ _

/-! ### The slot table (R88) -/

@[simp] theorem storeLineStart_slots_length (start i : Nat) (s : State) :
    (storeLineStart start i s).store.slots.length = s.store.slots.length := by
  have h := arriveLine_slots_length start i s.store
  unfold storeLineStart
  split <;> next heq => rw [heq] at h; simpa using h

@[simp] theorem activeLineStart_slots_length (storeFirst : Bool) (s : State) :
    (activeLineStart storeFirst s).store.slots.length = s.store.slots.length := by
  simp only [activeLineStart]
  (repeat' split) <;> simp

/-! ### The laws over a frame -/

/-- What is not the queues keeps its bound over what leaves image memory and the sizes alone, adds no edit, and enters no period
beyond the fourth. -/
theorem boundsLaw_of_capacity {s s' : State} (h : s.BoundsLaw) (hcap : s'.CapacityLaw)
    (hstage : s'.stage.edits.length ≤ s.stage.edits.length := by simp)
    (himage : s'.overlay.image = s.overlay.image := by simp) (hcat : s'.cat.length = s.cat.length := by simp)
    (hslots : s'.store.slots.length = s.store.slots.length := by simp)
    (hprofiles : s'.panel.profiles.length = s.panel.profiles.length := by simp)
    (hwindows : s'.overlay.windows.length = s.overlay.windows.length := by simp)
    (hperiods : s.mon.periods.length ≤ 4 → s'.mon.periods.length ≤ 4 := by simp) : s'.BoundsLaw := by
  obtain ⟨-, hs, hi, hc, hl, hp, hw, hper⟩ := h
  refine ⟨hcap, Nat.le_trans hstage hs, ?_, hcat.trans hc, hslots.trans hl, hprofiles.trans hp, hwindows.trans hw,
    hperiods hper⟩
  rwa [State.ImageLaw, himage]

/-- The same with the control port left alone. -/
theorem boundsLaw_of_frame {s s' : State} (h : s.BoundsLaw) (hctl : s'.ctl = s.ctl := by simp)
    (hstage : s'.stage.edits.length ≤ s.stage.edits.length := by simp)
    (himage : s'.overlay.image = s.overlay.image := by simp) (hcat : s'.cat.length = s.cat.length := by simp)
    (hslots : s'.store.slots.length = s.store.slots.length := by simp)
    (hprofiles : s'.panel.profiles.length = s.panel.profiles.length := by simp)
    (hwindows : s'.overlay.windows.length = s.overlay.windows.length := by simp)
    (hperiods : s.mon.periods.length ≤ 4 → s'.mon.periods.length ≤ 4 := by simp) : s'.BoundsLaw := by
  refine boundsLaw_of_capacity h ?_ hstage himage hcat hslots hprofiles hwindows hperiods
  rw [State.CapacityLaw, hctl]
  exact h.1

theorem frameStart_periods (ok : Bool) (format : Format) (depth : Depth) (vrr game : Bool) (s : State)
    (h : s.mon.periods.length ≤ 4) : (frameStart ok format depth vrr game s).mon.periods.length ≤ 4 := by
  unfold frameStart
  split
  · exact h
  · split
    · split
      · exact (acceptFrameStart_kept format depth vrr game _).2 h
      · exact h
    all_goals exact (acceptFrameStart_kept format depth vrr game s).2 h

theorem declareLoss_periods (s : State) (h : s.mon.periods.length ≤ 4) : (declareLoss s).mon.periods.length ≤ 4 := by
  rw [declareLoss_mon]
  split
  · exact h
  · simp [Monitor.reset]

theorem lineComplete_periods (s : State) : (lineComplete s).mon.periods = s.mon.periods := by
  unfold lineComplete
  split <;> rfl

/-! ### Requests -/

/-- The end of a processing: the reply takes the place of the request. -/
theorem boundsLaw_finish {code : Byte} {a : Answer} (h : a.st.BoundsLaw) (hp : a.st.ctl.processing.isSome = true) :
    (finish code a).BoundsLaw := by
  have hcap : (finish code a).CapacityLaw := by
    refine ⟨by rw [capacityInUse_finish code a hp]; exact h.1.1, ?_⟩
    rw [finish_spec]
    cases a.st.ctl.requests <;> simp
  exact boundsLaw_of_capacity h hcap (Nat.le_refl _) rfl rfl rfl rfl rfl id

theorem boundsLaw_serve {code : Byte} {body : List Byte → State → Answer} {t : Nat} {s : State} (h : s.BoundsLaw)
    (hbody : ∀ ps, (body ps (tick t s)).st.BoundsLaw)
    (hp : ∀ ps, (body ps (tick t s)).st.ctl.processing = s.ctl.processing := by simp) :
    (serve code body t s).BoundsLaw := by
  unfold serve
  split
  · next r hr =>
    split
    · exact boundsLaw_finish (hbody _) (by simp [hp, hr])
    · exact h
  · exact h

theorem boundsLaw_of_stages {a : Answer} {s : State} (h : s.BoundsLaw) (ha : RefusesOrStages a s) : a.st.BoundsLaw := by
  obtain ha | ⟨e, data, ps, rfl⟩ := ha
  · rwa [ha]
  · unfold stageEdit
    split
    · exact h
    · next hroom =>
      obtain ⟨hc, -, hi, ht⟩ := h
      have hlen := acceptEdit_edits_le e s
      have hframe : State.StageLaw (settlePacer (acceptEdit e s)) := by
        simp only [State.StageLaw, settlePacer_frame, Config.stageCapacity] at *
        omega
      refine ⟨?_, hframe, ?_, ?_⟩
      · simpa [State.CapacityLaw] using hc
      · simpa [State.ImageLaw] using hi
      · simpa [State.TableLaw] using ht

theorem boundsLaw_bodyGroupClose {ps : List Byte} {s : State} (h : s.BoundsLaw) :
    (bodyGroupClose ps s).st.BoundsLaw := by
  have hpoint := applicationPoint_edits_le (s.setStage { s.stage with groupOpen := false })
  refine boundsLaw_of_frame h (hstage := ?_)
  unfold bodyGroupClose
  split
  · exact Nat.le_refl _
  split
  · exact Nat.le_refl _
  show (closeGroup s).1.stage.edits.length ≤ _
  unfold closeGroup
  dsimp only
  split
  case h_1 | h_2 => simpa using hpoint
  all_goals simp

theorem boundsLaw_bodyGroupOpen {ps : List Byte} {s : State} (h : s.BoundsLaw) : (bodyGroupOpen ps s).st.BoundsLaw := by
  refine boundsLaw_of_frame h (hstage := ?_)
  unfold bodyGroupOpen
  (repeat' split) <;> exact Nat.le_refl _

/-- A check that refuses, before what follows it. -/
theorem boundsLaw_check {p : Prop} [Decidable p] {status : Status} {ps : List Byte} {s : State} {a : Answer}
    (h : s.BoundsLaw) (ha : a.st.BoundsLaw) : (if p then refuse status ps s else a).st.BoundsLaw := by
  split
  · exact h
  · exact ha

theorem boundsLaw_bodyImgWrite {ps : List Byte} {s : State} (h : s.BoundsLaw) : (bodyImgWrite ps s).st.BoundsLaw := by
  have hwrite : ∀ start data, (writeImage start data s).st.BoundsLaw := fun start data => by
    obtain ⟨hc, hs, hi, ht⟩ := h
    exact ⟨hc, hs, imageWriteAll_wf hi, ht⟩
  simp only [bodyImgWrite]
  refine boundsLaw_check h (boundsLaw_check h ?_)
  split
  · exact boundsLaw_check h (boundsLaw_check h (hwrite _ _))
  · exact boundsLaw_check h (hwrite _ _)

/-- A part reset empties the queues and the stage and keeps the sizes. -/
theorem boundsLaw_partReset {s : State} (h : s.BoundsLaw) : (partReset s).BoundsLaw := by
  have hctl : (partReset s).ctl = s.ctl.partReset := by simp [partReset]
  have hcap : (partReset s).CapacityLaw := by
    rw [State.CapacityLaw, hctl]
    refine ⟨?_, fun _ => rfl⟩
    show 0 + (if s.ctl.processing.isSome then 1 else 0) + 0 ≤ 8
    split <;> omega
  refine boundsLaw_of_capacity h hcap (hstage := ?_) (hslots := ?_) (hperiods := fun _ => ?_)
  · simp [partReset, Stage.reset]
  · rw [h.2.2.2.2.1]
    simp [partReset, LineStore.reset]
  · simp [partReset, Monitor.reset]

theorem boundsLaw_bodyResetPart {ps : List Byte} {s : State} (h : s.BoundsLaw) : (bodyResetPart ps s).st.BoundsLaw := by
  unfold bodyResetPart
  split
  · exact h
  · exact boundsLaw_partReset h

theorem bodyResetPart_processing (ps : List Byte) (s : State) :
    (bodyResetPart ps s).st.ctl.processing = s.ctl.processing := by
  unfold bodyResetPart
  split
  · rfl
  · simp [accept, partReset, ControlPort.partReset]

theorem boundsLaw_bodyObserve {ps : List Byte} {s : State} (h : s.BoundsLaw) : (bodyObserve ps s).st.BoundsLaw := by
  unfold bodyObserve
  split
  · exact h
  · exact boundsLaw_of_frame h rfl (Nat.le_refl _) rfl rfl rfl rfl rfl id

/-! ### Every command -/

theorem boundsLaw_externalReset {csLow : Bool} {s : State} (h : s.BoundsLaw) : (externalReset csLow s).BoundsLaw :=
  ⟨by simp [State.CapacityLaw, externalReset, ControlPort.reset, capacityInUse, requestsHeld],
    by simp [State.StageLaw, externalReset, State.reset, Stage.reset], h.2.2.1,
    by simp [State.TableLaw, externalReset, State.reset, LineStore.reset, PanelPort.reset, Overlay.reset, Monitor.reset,
      catReset]⟩

theorem boundsLaw_completeStartup {s : State} (h : s.BoundsLaw) : (completeStartup s).BoundsLaw := by
  unfold completeStartup
  split
  · exact h
  · obtain ⟨hc, hs, -, ht⟩ := h
    exact ⟨hc, hs, rfl, ht⟩

theorem boundsLaw_settlePacer {s : State} (h : s.BoundsLaw) : (settlePacer s).BoundsLaw := boundsLaw_of_frame h

theorem boundsLaw_launchFirst {e : Nat} {s : State} (h : s.BoundsLaw) : (launchFirst e s).BoundsLaw := by
  have hedits : (launchFirst e s).stage.edits.length ≤ s.stage.edits.length :=
    (applicationPoint_edits_le _).trans (by simp)
  unfold launchFirst at hedits ⊢
  exact boundsLaw_of_frame h (hstage := hedits)

theorem boundsLaw_exec {c : Instr} {s s' : State} (h : s.BoundsLaw) (hc : exec c s = .next s') : s'.BoundsLaw := by
  have ht : ∀ t, (tick t s).BoundsLaw := fun t => h
  cases c with
  | externalReset t csLow => cases hc; exact boundsLaw_externalReset (ht t)
  | startupComplete t => cases hc; exact boundsLaw_completeStartup (ht t)
  | sourceFrameStart t ok format depth vrr game =>
    cases hc
    exact boundsLaw_of_frame (ht t) (hstage := by simpa using frameStart_edits_le ok format depth vrr game (tick t s))
      (hperiods := by simpa using frameStart_periods ok format depth vrr game (tick t s))
  | lineStart t => cases hc; exact boundsLaw_of_frame (ht t) (hperiods := by simpa using (lineStart_kept (tick t s)).2)
  | activeLineStart t storeFirst =>
    cases hc; exact boundsLaw_of_frame (ht t) (hperiods := by simpa using (activeLineStart_kept storeFirst (tick t s)).2)
  | pixelTransfer t l0 l1 l2 l3 =>
    cases hc
    exact boundsLaw_of_frame (ht t) (hperiods := by simpa using (pixelTransfer_kept (lanePixels l0 l1 l2 l3) (tick t s)).2)
  | lineComplete t => cases hc; exact boundsLaw_of_frame (ht t) (hperiods := by simp [lineComplete_periods])
  | signalOkFall t =>
    cases hc
    refine boundsLaw_of_frame (ht t) (hperiods := ?_)
    rw [(settlePacer_frame _).2.2.1]
    unfold lossFrom
    split
    · exact declareLoss_periods _
    · exact id
  | frameStartTimerExpiry =>
    simp only [exec, execFrameStartTimerExpiry] at hc
    split at hc <;> cases hc
    · exact boundsLaw_of_frame h (hperiods := by simpa using declareLoss_periods (tick _ s))
    · exact h
  | liveLaunch =>
    simp only [exec, execLiveLaunch] at hc
    split at hc <;> cases hc
    · exact boundsLaw_of_frame h (hstage := by simpa using launchPending_edits_le _ (tick _ s))
    · exact h
  | predictedRedraw | forcedDeadline | holdTimerExpiry | restTimerExpiry | trailEnd =>
    simp only [exec, execPredictedRedraw, execForcedDeadline, execHoldTimerExpiry, execRestTimerExpiry, execTrailEnd] at hc
    split at hc <;> cases hc
    · exact boundsLaw_of_frame h
    · exact h
  | periodicLaunch =>
    simp only [exec, execPeriodicLaunch] at hc
    split at hc
    · cases hc
      exact boundsLaw_of_frame h
    · split at hc <;> cases hc
      · exact boundsLaw_settlePacer (boundsLaw_launchFirst (ht _))
      · exact h
  | panelLineStart =>
    simp only [exec, execPanelLineStart] at hc
    split at hc
    · split at hc <;> cases hc
      · exact boundsLaw_of_frame h
      · exact h
    · cases hc; exact h
  | scanEnd =>
    simp only [exec, execScanEnd] at hc
    split at hc <;> cases hc
    · exact boundsLaw_of_frame h (hstage := by simpa using scanEndOf_edits_le _ (tick _ s))
    · exact h
  | switchEnd stageFirst =>
    simp only [exec, execSwitchEnd] at hc
    split at hc <;> cases hc
    · exact boundsLaw_of_frame h (hstage := by simpa using switchEndOf_edits_le _ stageFirst (tick _ s))
    · exact h
    · exact h
  | post t ev => cases hc; exact boundsLaw_of_capacity (ht t) (capacityLaw_wireEvent h.1)
  | malformedPost t ev => cases hc; exact boundsLaw_of_capacity (ht t) (capacityLaw_wireEvent h.1)
  | fetch t ev => cases hc; exact boundsLaw_of_capacity (ht t) (capacityLaw_wireEvent h.1)
  | statusOnly t ev => cases hc; exact boundsLaw_of_capacity (ht t) (capacityLaw_wireEvent h.1)
  | unknownCode t =>
    cases hc
    unfold serveUnknown
    split
    · next r hr =>
      split
      · exact h
      · exact boundsLaw_finish (a := refuse .badCode r.params (tick t s)) h (by simp [refuse, hr])
    · exact h
  | echo t => cases hc; exact boundsLaw_serve h (fun ps => ht t) fun ps => rfl
  | resetPart t =>
    cases hc; exact boundsLaw_serve h (fun ps => boundsLaw_bodyResetPart (ht t)) fun ps => bodyResetPart_processing ps _
  | groupOpen t => cases hc; exact boundsLaw_serve h fun ps => boundsLaw_bodyGroupOpen (ht t)
  | groupClose t => cases hc; exact boundsLaw_serve h fun ps => boundsLaw_bodyGroupClose (ht t)
  | observe t => cases hc; exact boundsLaw_serve h fun ps => boundsLaw_bodyObserve (ht t)
  | imgWrite t => cases hc; exact boundsLaw_serve h fun ps => boundsLaw_bodyImgWrite (ht t)
  | catFind t =>
    cases hc
    exact boundsLaw_serve h (fun ps => by rw [bodyCatFind_st]; exact ht t) fun ps => by rw [bodyCatFind_st]; rfl
  | winRead t =>
    cases hc
    exact boundsLaw_serve h (fun ps => by rw [bodyWinRead_st]; exact ht t) fun ps => by rw [bodyWinRead_st]; rfl
  | catStore t => cases hc; exact boundsLaw_serve h fun ps => boundsLaw_of_stages (ht t) (bodyCatStore_refusesOrStages ps _)
  | catRetire t => cases hc; exact boundsLaw_serve h fun ps => boundsLaw_of_stages (ht t) (bodyCatRetire_refusesOrStages ps _)
  | winDefine t => cases hc; exact boundsLaw_serve h fun ps => boundsLaw_of_stages (ht t) (bodyWinDefine_refusesOrStages ps _)
  | winPlace t => cases hc; exact boundsLaw_serve h fun ps => boundsLaw_of_stages (ht t) (bodyWinPlace_refusesOrStages ps _)
  | winShow t => cases hc; exact boundsLaw_serve h fun ps => boundsLaw_of_stages (ht t) (bodyWinShow_refusesOrStages ps _)
  | winRetire t => cases hc; exact boundsLaw_serve h fun ps => boundsLaw_of_stages (ht t) (bodyWinRetire_refusesOrStages ps _)
  | setFill t => cases hc; exact boundsLaw_serve h fun ps => boundsLaw_of_stages (ht t) (bodySetFill_refusesOrStages ps _)
  | identify t | start t | standby t | wake t | eventMask t | eventRead t | catRead t | catStats t | catLock t | catList t
    | imgRead t | profileSet t | profileRead t | setTimers t | pacingRead t =>
    cases hc; exact boundsLaw_serve h fun ps => boundsLaw_of_frame (ht t)
  | csnSeenHigh t =>
    cases hc; exact boundsLaw_of_capacity (ht t) (capacityLaw_of_queues h.1 rfl rfl (Nat.le_refl _))

/-- Settles O58: each command keeps the bounds, and a step runs a command or idles. -/
theorem stepKeepsBoundsLaw : Obligations.StepKeepsBoundsLaw := by
  intro s s' h hstep
  unfold step at hstep
  split at hstep
  · cases hstep
    exact h
  · next c rest _ =>
    have hrest : State.BoundsLaw { s with pending := rest } := h
    exact boundsLaw_exec hrest hstep

end Sys2Proof.Proofs.Bounds
end

section
/-! PROOFS. The step and the commands as a whole: no command stops the machine, a command without its occasion does nothing,
and what reset and start-up leave. -/

namespace Sys2Proof.Proofs.Commands

open Sys2Proof Sys2Proof.Machine Sys2Proof.Cert
open Sys2Proof.Proofs.Basics

/-! ### The step -/

/-- Settles O1: a step is defined by the front of the queue. -/
theorem stepRunsFrontCommand : Obligations.StepRunsFrontCommand := by
  intro s c rest h
  simp only [step, h]

/-! ### Every command answers a next state -/

/-- A next state, with the queue of commands left alone and the clock not run back. -/
def Advances (o : Outcome) (s : State) : Prop := ∃ s', o = .next s' ∧ s'.pending = s.pending ∧ s.now ≤ s'.now

theorem advances_next {s s' : State} (hp : s'.pending = s.pending := by simp) (hn : s.now ≤ s'.now := by simp) :
    Advances (.next s') s := ⟨s', rfl, hp, hn⟩

/-- Serving a request advances where the body leaves the queue and the clock alone. -/
theorem advances_serve {code : Byte} {body : List Byte → State → Answer} {t : Nat} {s : State}
    (hp : ∀ ps, (body ps (tick t s)).st.pending = s.pending := by simp)
    (hn : ∀ ps, (body ps (tick t s)).st.now = max s.now t := by simp) : Advances (.next (serve code body t s)) s := by
  unfold serve
  split
  · split
    · exact ⟨_, rfl, hp _, (Nat.le_max_left _ t).trans (hn _).ge⟩
    · exact advances_next
  · exact advances_next

theorem advances_exec (c : Instr) (s : State) : Advances (exec c s) s := by
  cases c with
  | externalReset t csLow => exact advances_next rfl (Nat.le_max_left _ _)
  | startupComplete t | sourceFrameStart t _ _ _ _ _ | lineStart t | activeLineStart t _ | pixelTransfer t _ _ _ _
    | lineComplete t | signalOkFall t | post t _ | malformedPost t _ | fetch t _ | statusOnly t _ | csnSeenHigh t =>
    exact advances_next
  | frameStartTimerExpiry | liveLaunch | predictedRedraw | forcedDeadline | holdTimerExpiry | restTimerExpiry | scanEnd
    | trailEnd | switchEnd _ =>
    simp only [exec, execFrameStartTimerExpiry, execLiveLaunch, execPredictedRedraw, execForcedDeadline,
      execHoldTimerExpiry, execRestTimerExpiry, execScanEnd, execTrailEnd, execSwitchEnd]
    split <;> exact advances_next
  | periodicLaunch =>
    simp only [exec, execPeriodicLaunch, launchFirst]
    split
    · exact advances_next
    · split <;> exact advances_next
  | panelLineStart =>
    simp only [exec, execPanelLineStart]
    split
    · split <;> exact advances_next
    · exact advances_next
  | unknownCode t =>
    simp only [exec, execUnknownCode, serveUnknown]
    split
    · split
      · exact advances_next
      · exact advances_next rfl (Nat.le_max_left _ _)
    · exact advances_next
  | echo t => exact advances_serve (fun ps => rfl) fun ps => rfl
  | catFind t => exact advances_serve (fun ps => by rw [bodyCatFind_st]; rfl) fun ps => by rw [bodyCatFind_st]; rfl
  | winRead t => exact advances_serve (fun ps => by rw [bodyWinRead_st]; rfl) fun ps => by rw [bodyWinRead_st]; rfl
  | identify t | start t | standby t | wake t | resetPart t | eventMask t | eventRead t | groupOpen t | groupClose t
    | catStore t | catRetire t | catRead t | catStats t | catLock t | catList t | winDefine t | winPlace t | winShow t
    | winRetire t | imgWrite t | imgRead t | profileSet t | profileRead t | setTimers t | setFill t | observe t
    | pacingRead t =>
    exact advances_serve

/-- Settles O2, command by command. -/
theorem everyCommandAnswersNextState : Obligations.EveryCommandAnswersNextState := advances_exec

/-! ### A command without its occasion -/

/-- Each command of the summary table serves the request of its code by a body of its own. -/
theorem exists_body (t : Nat) :
    ∀ p ∈ requestCommands t, ∃ body, ∀ s, exec p.1 s = .next (serve p.2 body t s) := by
  simp only [requestCommands, List.forall_mem_cons]
  exact ⟨⟨bodyEcho, fun _ => rfl⟩, ⟨bodyIdentify, fun _ => rfl⟩, ⟨bodyStart, fun _ => rfl⟩, ⟨bodyStandby, fun _ => rfl⟩,
    ⟨bodyWake, fun _ => rfl⟩, ⟨bodyResetPart, fun _ => rfl⟩, ⟨bodyEventMask, fun _ => rfl⟩, ⟨bodyEventRead, fun _ => rfl⟩,
    ⟨bodyGroupOpen, fun _ => rfl⟩, ⟨bodyGroupClose, fun _ => rfl⟩, ⟨bodyCatStore, fun _ => rfl⟩,
    ⟨bodyCatRetire, fun _ => rfl⟩, ⟨bodyCatRead, fun _ => rfl⟩, ⟨bodyCatStats, fun _ => rfl⟩, ⟨bodyCatFind, fun _ => rfl⟩,
    ⟨bodyCatLock, fun _ => rfl⟩, ⟨bodyCatList, fun _ => rfl⟩, ⟨bodyWinDefine, fun _ => rfl⟩, ⟨bodyWinPlace, fun _ => rfl⟩,
    ⟨bodyWinShow, fun _ => rfl⟩, ⟨bodyWinRetire, fun _ => rfl⟩, ⟨bodyWinRead, fun _ => rfl⟩, ⟨bodyImgWrite, fun _ => rfl⟩,
    ⟨bodyImgRead, fun _ => rfl⟩, ⟨bodyProfileSet, fun _ => rfl⟩, ⟨bodyProfileRead, fun _ => rfl⟩,
    ⟨bodySetTimers, fun _ => rfl⟩, ⟨bodySetFill, fun _ => rfl⟩, ⟨bodyObserve, fun _ => rfl⟩,
    ⟨bodyPacingRead, fun _ => rfl⟩, nofun⟩

/-- The codes the port knows are those of the commands of the summary table (9.7). -/
theorem knownCode_iff (t : Nat) (c : Byte) : knownCode c = true ↔ c ∈ (requestCommands t).map Prod.snd := by
  have hall : ∀ c : Byte, knownCode c = true ↔ c ∈ (requestCommands 0).map Prod.snd := by decide
  exact hall c

theorem serveUnknown_of_known {t : Nat} {s : State}
    (h : ∀ code ps, Serving s code ps → code ∈ (requestCommands t).map Prod.snd) : serveUnknown t s = s := by
  unfold serveUnknown
  split
  · next r hr => rw [if_pos ((knownCode_iff t r.code).mpr (h r.code r.params hr))]
  · rfl

theorem firstEntry_of_empty {reason : LaunchReason} {s : State} (h : s.pacer.schedule = []) :
    firstEntry reason s = none := by
  simp [firstEntry, h]

theorem launchAtEnd_of_none {s : State}
    (h : (∀ e, s.panel.phase ≠ .switching e) ∨ (s.pacer.state ≠ .freeRun ∧ s.pacer.state ≠ .hold)) :
    launchAtEnd s = none := by
  unfold launchAtEnd
  split <;> simp_all

theorem scanningFrame_of_none {s : State} (h : s.panel.frame = none) : scanningFrame s = none := by
  unfold scanningFrame
  split <;> simp [h]

/-- Settles O3: each command's first test is the one its occasion passes. -/
theorem commandsNeedTheirOccasion : Obligations.CommandsNeedTheirOccasion := by
  intro s t
  refine ⟨fun h => by simp only [step, h], fun p hp h => ?_, fun h => congrArg _ (serveUnknown_of_known h), fun h => ?_,
    fun h => ?_, fun h => ?_, fun h he => ?_, fun h => ?_, fun h => ?_, fun h => ?_, fun h => ⟨?_, ?_, ?_⟩, fun h o => ?_⟩
  · obtain ⟨body, hbody⟩ := exists_body t p hp
    rw [hbody, serve_of_other body t h]
  · simp only [exec, execFrameStartTimerExpiry, h]
  · simp only [exec, execLiveLaunch, h]
  · simp only [exec, execPredictedRedraw, firstEntry_of_empty h]
  · simp only [exec, execPeriodicLaunch, firstEntry_of_empty h, launchAtEnd_of_none he]
  · simp only [exec, execForcedDeadline, h]
  · simp only [exec, execHoldTimerExpiry]
    split <;> simp_all
  · simp only [exec, execRestTimerExpiry]
    split <;> simp_all
  · simp only [exec, execPanelLineStart, scanningFrame_of_none h]
  · simp only [exec, execScanEnd, scanningFrame_of_none h]
  · simp only [exec, execTrailEnd, h]
    split <;> simp_all
  · simp only [exec, execSwitchEnd]
    split <;> simp_all

/-! ### Reset and start-up -/

theorem recordAt_reset (i : Nat) : recordAt State.reset i = .free := by
  simp [recordAt, State.reset, catReset, List.getD_eq_getElem?_getD, List.getElem?_replicate]
  split <;> rfl

/-- Settles O4: the reset state, read off block by block. -/
theorem resetHoldsTheManualsValues : Obligations.ResetHoldsTheManualsValues := by
  refine ⟨by decide, ⟨List.length_replicate, fun i _ => ?_⟩, rfl, by decide,
    ⟨List.length_replicate, fun x hx => ?_, rfl⟩, ⟨rfl, fun p hp => ?_, by decide⟩,
    ⟨rfl, fun w hw => ?_, rfl, fun a => rfl⟩, ⟨rfl, rfl⟩, by decide, by decide, rfl⟩
  · rw [recordAt_reset]
    exact ⟨rfl, rfl, rfl, rfl, rfl⟩
  · rw [List.eq_of_mem_replicate hx]
    rfl
  · exact List.eq_of_mem_replicate hp
  · rw [List.eq_of_mem_replicate hw]
    exact ⟨rfl, rfl, rfl, rfl, rfl⟩

theorem imageRead_completeStartup {s : State} (h : s.ctl.phase = .starting) (a : Nat) :
    imageRead a (completeStartup s).overlay.image = 0#8 := by
  simp only [completeStartup, h]
  rfl

/-- Settles O5: the three commands, each by its definition. -/
theorem resetAndStartUp : Obligations.ResetAndStartUp := by
  intro t s
  refine ⟨fun csLow => ⟨_, rfl, rfl, rfl, rfl, rfl, rfl, rfl, rfl, rfl, rfl, rfl, rfl, rfl, rfl, rfl⟩, fun h => ?_,
    fun h => ?_, rfl⟩
  · refine ⟨completeStartup (tick t s), rfl, imageRead_completeStartup h, ?_⟩
    simp only [completeStartup, tick_ctl, h]
    rfl
  · show Host.Outcome.next (completeStartup (tick t s)) = _
    simp only [completeStartup, tick_ctl, h]
    rfl

theorem noneActive_reset : NoneActive State.reset :=
  ⟨fun r hr => by rw [List.eq_of_mem_replicate hr]; simp [ModeRecord.free], rfl⟩

theorem boundsLaw_reset : State.reset.BoundsLaw :=
  ⟨⟨Nat.zero_le _, fun _ => rfl⟩, Nat.zero_le _, rfl, List.length_replicate, List.length_replicate, rfl, rfl, Nat.zero_le _⟩

/-- Settles O60: after reset no record is ACTIVE, every queue is empty, and the monitor is cleared. -/
theorem resetMeetsTheLaws : Obligations.ResetMeetsTheLaws :=
  ⟨ActiveRecord.activeLaw_of_noneActive noneActive_reset, boundsLaw_reset, fun _ => rfl⟩

end Sys2Proof.Proofs.Commands
end

section
/-! PROOFS. The pacer's two evaluations (R64, R80), the figures of a plan (R47 to R59), and writing image memory (R136). -/

namespace Sys2Proof.Proofs.Figures

open Sys2Proof Sys2Proof.Machine Sys2Proof.Cert
open Sys2Proof.Proofs.Basics

/-! ### The forced deadline (R64) and the rest timer (R80) -/

theorem launching_iff (p : PacerState) : p.launching = true ↔ p ∈ [.live, .hold, .freeRun] := by
  cases p <;> decide

theorem noneDueBy_iff (p : Pacer) (t : Nat) :
    noneDueBy p t = true ↔ (∀ x, p.pending = some x → t < x.time) ∧ ∀ x ∈ p.schedule, t < x.time := by
  unfold noneDueBy
  cases p.pending <;> simp

theorem deadlineTime_eq_some_iff {s : State} {d : Nat} :
    deadlineTime s = some d ↔ ∃ l, s.pacer.last = some l ∧ d = l.time + (currentProfile s).tmax := by
  simp [deadlineTime, eq_comm]

/-- The forced deadline is armed at its time exactly under R64's conditions, and not before e (log 41). -/
theorem armedDeadline_eq_some_iff {s : State} {d : Nat} :
    armedDeadline s = some d ↔
      s.pacer.state ∈ [.live, .hold, .freeRun]
        ∧ (∃ l, s.pacer.last = some l ∧ d = l.time + (currentProfile s).tmax ∧ l.time + l.spacing ≤ d)
        ∧ s.pacer.tracking = .noSwitch ∧ (∀ x, s.pacer.pending = some x → d < x.time)
        ∧ (∀ x ∈ s.pacer.schedule, d < x.time) ∧ s.now ≤ d := by
  rw [armedDeadline, Option.filter_eq_some_iff, decide_eq_true_iff, launching_iff, noneDueBy_iff,
    beforeEarliest_eq_false_iff, deadlineTime_eq_some_iff]
  constructor
  · rintro ⟨⟨l, hl, hd⟩, hstate, htracking, ⟨hpending, hschedule⟩, hnow, he⟩
    exact ⟨hstate, ⟨l, hl, hd, he l hl⟩, htracking, hpending, hschedule, hnow⟩
  · rintro ⟨hstate, ⟨l, hl, hd, he⟩, htracking, hpending, hschedule, hnow⟩
    refine ⟨⟨l, hl, hd⟩, hstate, htracking, ⟨hpending, hschedule⟩, hnow, fun l' hl' => ?_⟩
    obtain rfl : l = l' := Option.some.inj (hl.symm.trans hl')
    exact he

theorem settlePacer_deadline (s : State) : (settlePacer s).pacer.deadline = armedDeadline s := rfl

theorem settlePacer_restTimer (s : State) :
    (settlePacer s).pacer.restTimer = s.pacer.restTimer.set (restRuns s) s.now := rfl

theorem timer_set_stopped_iff (run : Bool) (t : Nat) (x : Timer) : x.set run t = .stopped ↔ x = .stopped := by
  cases x <;> cases run <;> simp [Timer.set]

theorem timer_set_running_iff (run : Bool) (t : Nat) (x : Timer) :
    (∃ e, x.set run t = .running e) ↔ x ≠ .stopped ∧ run = true := by
  cases x <;> cases run <;> simp [Timer.set]

theorem restRuns_iff (s : State) :
    restRuns s = true ↔ s.pacer.state = .freeRun ∧ s.mon.state = .noSignal ∧ s.pacer.restTime ≠ 0 := by
  simp [restRuns]

/-- Settles O53: `settlePacer` writes the two fields, each by its own rule. -/
theorem deadlineArmsAndRestTimerRuns : Obligations.DeadlineArmsAndRestTimerRuns := by
  intro s
  refine ⟨⟨_, _, rfl⟩, fun d => ?_, ?_, ?_, ?_⟩
  · rw [settlePacer_deadline]
    exact armedDeadline_eq_some_iff
  · rw [settlePacer_restTimer, timer_set_stopped_iff]
  · rw [settlePacer_restTimer, timer_set_running_iff, restRuns_iff]
  · rw [settlePacer_restTimer, Timer.left_set]

/-! ### The figures of a plan (R47 to R59) -/

theorem linePeriod_bounds {p : Profile} (h : p.lpMin ≤ p.lpMax) (hin ls hout : Nat) :
    p.lpMin ≤ linePeriod p hin ls hout ∧ linePeriod p hin ls hout ≤ p.lpMax := by
  unfold linePeriod
  omega

/-- A plan that fits is the figures of a picture that passed its checks (R47). -/
theorem planFor_eq_fit {slot win hin ls slead : Nat} {c : Content} {q : Profile} {p : Plan}
    (h : planFor slot win hin ls slead c q = .fit p) :
    let g := pictureOf c.present q win hin
    q.valid = true ∧ ratioOk g win hin = true ∧ placementOk g q = true
      ∧ p = figuresOf slot win hin ls slead c q g.wout g.hout g.xoff.toNat g.yoff.toNat ∧ p.q ≤ 128 := by
  unfold planFor at h
  dsimp only at h ⊢
  split at h
  · cases h
  next hvalid =>
  split at h
  · cases h
  next hratio =>
  split at h
  · cases h
  next hplacement =>
  split at h
  · cases h
  next hdepth =>
  obtain rfl : figuresOf slot win hin ls slead c q _ _ _ _ = p := PlanResult.fit.inj h
  exact ⟨by simpa using hvalid, by simpa using hratio, by simpa using hplacement, rfl, Nat.not_lt.mp hdepth⟩

/-- Settles O54: the checks give the bounds of the picture and of the depth, and each figure's own definition the rest. -/
theorem fitPlansKeepTheirBounds : Obligations.FitPlansKeepTheirBounds := by
  intro slot win hin ls slead c q p h
  obtain ⟨hvalid, hratio, hplacement, rfl, hdepth⟩ := planFor_eq_fit h
  generalize hg : pictureOf c.present q win hin = g at *
  simp only [ratioOk, placementOk, decide_eq_true_eq] at hratio hplacement
  obtain ⟨hw1, hw2, hh1, hh2⟩ := hratio
  obtain ⟨hx, hy, hright, hbottom⟩ := hplacement
  refine ⟨hvalid, rfl, rfl, rfl, rfl, ?_, ?_, hw1, hw2, hh1, hh2, fun hl => linePeriod_bounds hl _ _ _, hdepth, rfl, ?_,
    Nat.min_le_right _ _, Nat.min_le_left _ _, rfl, rfl, ?_, ?_⟩
  · simp only [figuresOf]
    omega
  · simp only [figuresOf]
    omega
  · exact Nat.mul_div_le _ 16
  · simp only [figuresOf]
    omega
  · exact fun hp => of_decide_eq_true hp

/-! ### Writing image memory (R136) -/

/-- A byte at the end of memory or beyond is discarded (R136). -/
theorem imageRead_writeAll_beyond {addr x : Nat} {vs : List Byte} {m : List Host.Cell} (hx : Config.imageBytes ≤ x) :
    imageRead x (imageWriteAll addr vs m) = imageRead x m := by
  induction vs generalizing addr m with
  | nil => rfl
  | cons v vs ih =>
    unfold imageWriteAll
    rw [ih]
    split
    · exact imageRead_write_other (by omega)
    · rfl

/-- Image memory after bytes written in order, address by address (R136). -/
theorem imageRead_writeAll {start : Nat} {data : List Byte} {m : List Host.Cell} (h : imageWf m = true) (a : Nat) :
    imageRead a (imageWriteAll start data m) =
      if start ≤ a ∧ a < start + data.length ∧ a < 262144 then data.getD (a - start) 0#8 else imageRead a m := by
  split
  · next ha =>
    obtain ⟨hstart, hend, hbelow⟩ := ha
    obtain ⟨i, rfl⟩ := Nat.exists_eq_add_of_le hstart
    rw [imageRead_writeAll_inside h (by omega) hbelow, Nat.add_sub_cancel_left]
  · next ha =>
    by_cases hx : Config.imageBytes ≤ a
    · exact imageRead_writeAll_beyond hx
    · have hx : a < 262144 := Nat.not_le.mp hx
      exact imageRead_writeAll_outside (by omega)

/-- Settles O31: each check in its turn, and then the bytes from the start address on. -/
theorem imgWriteWritesImageMemory : Obligations.ImgWriteWritesImageMemory := by
  intro t s ps hs hwf form writes
  have hrefused : ∀ status, bodyImgWrite ps (tick t s) = refuse status ps (tick t s) →
      exec (.imgWrite t) s = .next (refused 0x35#8 status ps t s) := fun status => exec_eq_refused rfl hs
  have hwrites : ∀ start data, bodyImgWrite ps (tick t s) = writeImage start data (tick t s) → writes start data :=
    fun start data hb => ⟨_, exec_eq_replied rfl hs hb, rfl, imageRead_writeAll hwf⟩
  refine ⟨fun h => hrefused _ ?_, fun h hf => hrefused _ ?_, fun h hf hlen => hrefused _ ?_,
    fun h h' hf hrange => hrefused _ ?_, fun h h' hf hpage hoff => hwrites _ _ ?_, fun h hf => hrefused _ ?_,
    fun h h' hf => hwrites _ _ ?_⟩
  · exact if_pos h
  · rw [bodyImgWrite, if_neg (by omega), if_pos hf]
  · rw [bodyImgWrite, if_neg (by omega), if_neg (by omega), if_pos hf, if_pos hlen]
  · rw [bodyImgWrite, if_neg (by omega), if_neg (by omega), if_pos hf, if_neg (by omega),
      if_pos (show Config.imagePages ≤ _ ∨ Config.pageBytes ≤ _ from hrange)]
  · rw [bodyImgWrite, if_neg (by omega), if_neg (by omega), if_pos hf, if_neg (by omega),
      if_neg (by simp only [Config.imagePages, Config.pageBytes]; omega)]
    rfl
  · rw [bodyImgWrite, if_neg (by omega), if_neg (by omega), if_neg (by omega), if_pos h]
  · rw [bodyImgWrite, if_neg (by omega), if_neg (by omega), if_neg (by omega), if_neg (by omega)]
    rfl

end Sys2Proof.Proofs.Figures
end

section
/-! PROOFS. The panel port: switch requests and stops in each phase (R118, R120). -/

namespace Sys2Proof.Proofs.PanelSwitching

open Sys2Proof Sys2Proof.Machine Sys2Proof.Cert

/-- A switch that begins, with the profile it switches to named (R118). -/
theorem beginSwitch_eq {p : Nat} {a : State} (h : a.panel.current = some p) :
    beginSwitch a.now a = { a with
      panel := { a.panel with
        current := some p, state := .switching, phase := .switching (a.now + (profileAt a p).switchTime), old := none
        frame := none, out := { a.panel.out with dataEnable := false, line := [] } }
      pacer := { a.pacer with tracking := .switching (a.now + (profileAt a p).switchTime) } } := by
  have hprofile : currentProfile a = profileAt a p := by simp only [currentProfile, h]
  rw [← h]
  simp only [beginSwitch, hprofile]
  rfl

theorem withdrawToCome_of_not_pending {s : State} (h : s.panel.phase ≠ .pending true) : withdrawToCome s = s := by
  unfold withdrawToCome
  split
  · next hp => exact absurd hp h
  · rfl

theorem withdrawToCome_of_frame {s : State} (h : s.panel.phase = .pending true) (hf : s.panel.frame ≠ none) :
    withdrawToCome s = { s with panel := { s.panel with phase := .pending false } } := by
  obtain ⟨f, hf⟩ := Option.ne_none_iff_exists'.mp hf
  simp only [withdrawToCome, h, hf]
  rfl

theorem withdrawToCome_of_no_frame {s : State} (h : s.panel.phase = .pending true) (hf : s.panel.frame = none) :
    withdrawToCome s = beginSwitch s.now s := by
  simp only [withdrawToCome, h, hf]
  rfl

/-- While a switch is pending or in progress a stop waits for it (R120). -/
theorem portStop_of_switch {s : State} (h : s.panel.phase ≠ .noSwitch) :
    portStop s = withdrawToCome { s with panel := { s.panel with stopPending := true } } := by
  unfold portStop
  split
  · next hp => exact absurd hp h
  · rfl
  · rfl

/-- Settles O52, by the phase and then by the port's state. -/
theorem switchRequestsAndStops : Obligations.SwitchRequestsAndStops := by
  intro s p toCome begun
  have hbegun : ∀ a : State, a.panel.current = some p → beginSwitch a.now a = begun a := fun a h => beginSwitch_eq h
  have hstart : ∀ a : State, a.panel.phase = .pending true → a.panel.frame = none → a.panel.current = some p →
      withdrawToCome a = begun a := fun a h hf hc => (withdrawToCome_of_no_frame h hf).trans (hbegun a hc)
  refine ⟨fun h hst hc => ?_, fun h hst hc => ?_, fun h hst => ?_, fun b h => ?_, fun e h => ?_, fun h hst => ?_,
    fun h hst => ?_,
    fun h hst => ?_, ?_⟩
  · simp only [List.mem_cons, List.not_mem_nil, or_false] at hst
    obtain hst | hst := hst <;> (simp only [panelSwitch, h, hst, hc]; rfl)
  · simp only [List.mem_cons, List.not_mem_nil, or_false] at hst
    obtain hst | hst := hst <;> (simp only [panelSwitch, h, hst, hc]; rfl)
  · simp only [List.mem_cons, List.not_mem_nil, or_false] at hst
    obtain hst | hst | hst := hst <;> (simp only [panelSwitch, h, hst]; rfl)
  · simp only [panelSwitch, h]
    rfl
  · simp only [panelSwitch, h]
    rfl
  · simp only [portStop, h, hst]
  · simp only [portStop, h, hst]
    rfl
  · simp only [List.mem_cons, List.not_mem_nil, or_false] at hst
    obtain hst | hst | hst := hst <;> (simp only [portStop, h, hst]; rfl)
  · intro stopping withdrawn
    have hstop : s.panel.phase ≠ .noSwitch → portStop s = withdrawToCome stopping := portStop_of_switch
    refine ⟨fun h => ?_, fun e h => ?_, fun h hf => ?_, fun h hf hc => ?_, withdrawToCome_of_not_pending⟩
    · rw [hstop (by simp [h]), withdrawToCome_of_not_pending (s := stopping) (by simp [stopping, h])]
    · rw [hstop (by simp [h]), withdrawToCome_of_not_pending (s := stopping) (by simp [stopping, h])]
    · exact ⟨(hstop (by simp [h])).trans (withdrawToCome_of_frame (s := stopping) h hf), withdrawToCome_of_frame h hf⟩
    · exact ⟨(hstop (by simp [h])).trans (hstart stopping h hf hc), hstart s h hf hc⟩

end Sys2Proof.Proofs.PanelSwitching
end

section
/-! PROOFS. The fields of requests and replies (R1, R181): bytes and the numbers they write. -/

namespace Sys2Proof.Proofs.Fields

open Sys2Proof Sys2Proof.Machine Sys2Proof.Cert

/-! ### Bytes to numbers -/

/-- Reading bytes goes on from the number read so far. -/
theorem foldl_bytes (bs : List Byte) (acc : Nat) :
    bs.foldl (fun acc b => acc * 256 + b.toNat) acc = acc * 256 ^ bs.length + beValue bs := by
  induction bs generalizing acc with
  | nil => simp [beValue]
  | cons b bs ih =>
    simp only [beValue, List.foldl_cons, List.length_cons] at *
    rw [ih, ih (0 * 256 + b.toNat)]
    ring

theorem beValue_cons (b : Byte) (bs : List Byte) : beValue (b :: bs) = b.toNat * 256 ^ bs.length + beValue bs := by
  rw [← foldl_bytes]
  simp [beValue]

theorem beValue_lt (bs : List Byte) : beValue bs < 256 ^ bs.length := by
  induction bs with
  | nil => simp [beValue]
  | cons b bs ih =>
    rw [beValue_cons, List.length_cons, pow_succ]
    have hb : b.toNat + 1 ≤ 256 := b.isLt
    calc b.toNat * 256 ^ bs.length + beValue bs
      _ < (b.toNat + 1) * 256 ^ bs.length := by rw [Nat.add_one_mul]; exact Nat.add_lt_add_left ih _
      _ ≤ 256 ^ bs.length * 256 := by rw [Nat.mul_comm]; exact Nat.mul_le_mul_left _ hb

theorem field_lt (ps : List Byte) (offset size : Nat) : field ps offset size < 256 ^ size :=
  (beValue_lt _).trans_le (Nat.pow_le_pow_right (by decide) (List.length_take_le _ _))

theorem field_one_lt (ps : List Byte) (offset : Nat) : field ps offset 1 < 256 := field_lt ps offset 1

/-! ### Numbers to bytes -/

@[simp] theorem beBytes_length (size v : Nat) : (beBytes size v).length = size := by
  induction size with
  | zero => rfl
  | succ size ih => simp [beBytes, ih]

@[simp] theorem be_length (size v : Nat) : (be size v).length = size := beBytes_length _ _

@[simp] theorem beSigned_length (v : Int) : (beSigned v).length = 4 := beBytes_length _ _

/-- The low bytes of a number do not see what stands above them. -/
theorem beBytes_add_mul {size m : Nat} (h : size ≤ m) (c v : Nat) : beBytes size (c * 256 ^ m + v) = beBytes size v := by
  induction size with
  | zero => rfl
  | succ size ih =>
    rw [beBytes, beBytes, ih (by omega)]
    congr 1
    obtain ⟨k, rfl⟩ := Nat.exists_eq_add_of_le h
    have hsplit : c * 256 ^ (size + 1 + k) + v = v + 256 * (c * 256 ^ k) * 256 ^ size := by ring
    rw [hsplit, Nat.add_mul_div_right _ _ (by positivity)]
    apply BitVec.eq_of_toNat_eq
    simp

/-- The bytes of a number are those it was read from. -/
theorem beBytes_beValue (bs : List Byte) : beBytes bs.length (beValue bs) = bs := by
  induction bs with
  | nil => rfl
  | cons b bs ih =>
    rw [List.length_cons, beBytes, beValue_cons, beBytes_add_mul (Nat.le_refl _), ih,
      Nat.mul_comm, Nat.mul_add_div (by positivity), Nat.div_eq_of_lt (beValue_lt bs)]
    simp

theorem be_of_lt {size v : Nat} (h : v < 256 ^ size) : be size v = beBytes size v := by
  rw [be, Nat.min_eq_left (by omega)]

/-- A field written again is the bytes it was read from. -/
theorem be_field {ps : List Byte} {offset size : Nat} (h : offset + size ≤ ps.length) :
    be size (field ps offset size) = (ps.drop offset).take size := by
  have hlen : ((ps.drop offset).take size).length = size := by simp; omega
  have hread := beBytes_beValue ((ps.drop offset).take size)
  rw [hlen] at hread
  rw [be_of_lt (field_lt ps offset size), field, hread]

/-- A number that fits is read back. -/
theorem beValue_beBytes (size v : Nat) : beValue (beBytes size v) = v % 256 ^ size := by
  induction size with
  | zero => simp [beBytes, beValue, Nat.mod_one]
  | succ size ih =>
    rw [beBytes, beValue_cons, ih, beBytes_length, pow_succ, Nat.mod_mul]
    simp only [BitVec.toNat_ofNat]
    ring

/-- The largest number of a width is all ones. -/
theorem beBytes_largest (size : Nat) : beBytes size (256 ^ size - 1) = List.replicate size 0xFF#8 := by
  induction size with
  | zero => rfl
  | succ size ih =>
    have hpos : 0 < 256 ^ size := by positivity
    have hsplit : 256 ^ (size + 1) - 1 = 255 * 256 ^ size + (256 ^ size - 1) := by rw [pow_succ]; omega
    rw [beBytes, hsplit, beBytes_add_mul (Nat.le_refl _), ih, Nat.mul_comm, Nat.mul_add_div hpos,
      Nat.div_eq_of_lt (by omega), List.replicate_succ]

/-- How a reply writes a number (R1, R181). -/
theorem fieldRules : FieldRules := by
  refine ⟨fun size v => ⟨be_length size v, fun h => ?_, fun h => ?_⟩, fun v hlow hhigh => ?_⟩
  · rw [be_of_lt h, beValue_beBytes, Nat.mod_eq_of_lt h]
  · rw [be, Nat.min_eq_right (by omega), beBytes_largest]
  · rw [be_of_lt (by omega), beSigned, clampInt, if_neg (by omega), if_neg (by omega)]

/-! ### One byte -/

theorem be_one {v : Nat} (h : v < 256) : be 1 v = [BitVec.ofNat 8 v] := by
  rw [be_of_lt h]
  simp [beBytes]

theorem append_congr {a a' b b' : List Byte} (ha : a = a') (hb : b = b') : a ++ b = a' ++ b' := ha ▸ hb ▸ rfl

theorem be_boolCode (b : Bool) : be 1 (boolCode b) = [if b then 1#8 else 0#8] := by
  cases b <;> rfl

theorem pacerStateCode_lt (p : PacerState) : p.code < 256 := by cases p <;> decide

end Sys2Proof.Proofs.Fields
end

section
/-! PROOFS. STANDBY (R82) and RESET_PART (R169): the port's stop on a changed pacer, and what a part reset leaves of each
block. -/

namespace Sys2Proof.Proofs.PartReset

open Sys2Proof Sys2Proof.Machine Sys2Proof.Cert
open Sys2Proof.Proofs.Basics Sys2Proof.Proofs.Figures Sys2Proof.Proofs.Fields

/-! ### The port's stop reads the port, the clock and the tracking alone -/

/-- Of the pacer a stop changes the tracking alone, and it reads nothing else of the state than the port, the clock and the
tracking. -/
theorem portStop_eq {s s' : State} (hpanel : s'.panel = s.panel) (hnow : s'.now = s.now)
    (htracking : s'.pacer.tracking = s.pacer.tracking) :
    portStop s' = { s' with
      panel := (portStop s).panel, pacer := { s'.pacer with tracking := (portStop s).pacer.tracking } } := by
  rcases s with ⟨_, _, _, _, _, pacer, _, ⟨_, state, _, phase, _, _, frame, _, _, _, _⟩, _, _, _, _⟩
  rcases s' with ⟨_, _, _, _, _, pacer', _, _, _, _, _, _⟩
  cases pacer
  cases pacer'
  dsimp only at hpanel hnow htracking
  subst hpanel hnow htracking
  cases phase with
  | noSwitch => cases state <;> rfl
  | switching e => rfl
  | pending toCome =>
    cases toCome with
    | false => rfl
    | true => cases frame <;> rfl

/-- The port and the tracking a stop leaves, for every state with the same port, clock and tracking. -/
theorem exists_portStop (s : State) : ∃ q tr, ∀ s' : State, s'.panel = s.panel → s'.now = s.now →
    s'.pacer.tracking = s.pacer.tracking →
    portStop s' = { s' with panel := q, pacer := { s'.pacer with tracking := tr } } :=
  ⟨_, _, fun _ hpanel hnow htracking => portStop_eq hpanel hnow htracking⟩

/-! ### The timers of a pacer that stops -/

theorem timer_set_false (t : Nat) (x : Timer) : (x.set false t).set false t = x.set false t := by
  cases x <;> rfl

theorem restOnStop_eq (now : Nat) (p : Pacer) :
    restOnStop now p = if p.state = .rest then p.loadedRest else p.restTimer.set false now := by
  unfold restOnStop
  cases p.restTimer <;> rfl

theorem restOnStop_set (now : Nat) (p : Pacer) : (restOnStop now p).set false now = restOnStop now p := by
  rw [restOnStop_eq]
  split
  · unfold Pacer.loadedRest
    split <;> rfl
  · exact timer_set_false _ _

theorem armedDeadline_of_not_launching {s : State} (h : s.pacer.state.launching = false) : armedDeadline s = none := by
  refine Option.eq_none_iff_forall_ne_some.mpr fun d hd => ?_
  have hstate := (launching_iff _).mpr (armedDeadline_eq_some_iff.mp hd).1
  rw [h] at hstate
  cases hstate

/-- In STANDBY and REST no deadline is armed and the rest timer is paused (R64, R80). -/
theorem settlePacer_of_stopped {s : State} (h : s.pacer.state = .standby ∨ s.pacer.state = .rest) :
    settlePacer s = { s with pacer := { s.pacer with
      deadline := none, restTimer := s.pacer.restTimer.set false s.now } } := by
  have hrest : restRuns s = false := by
    obtain h | h := h <;> simp [restRuns, h]
  have hlaunching : s.pacer.state.launching = false := by
    obtain h | h := h <;> rw [h] <;> rfl
  have harmed : armedDeadline (syncRest s) = none := armedDeadline_of_not_launching (by simpa using hlaunching)
  rw [settlePacer, rearm, harmed, syncRest, hrest]
  rfl

/-! ### STANDBY -/

/-- A rest timer in place of the pacer's own. -/
def withRest (r : Timer) (s : State) : State := s.setPacer { s.pacer with restTimer := r }

/-- The pacer taken to STANDBY with a rest timer r (R82). -/
theorem settlePacer_enterStandby (r : Timer) (s : State) :
    settlePacer (enterStandby (withRest r s)) = { portStop s with pacer := { (portStop s).pacer with
      state := .standby, schedule := [], deadline := none, holdTimer := .stopped, restTimer := r.set false s.now } } := by
  obtain ⟨q, tr, hstop⟩ := exists_portStop s
  rw [settlePacer_of_stopped (.inl (by simp [enterStandby, setPacerState])), enterStandby, hstop s rfl rfl rfl,
    hstop (stopHold (emptySchedule (setPacerState .standby (withRest r s)))) rfl rfl rfl]
  rfl

theorem withdrawToCome_pacer (s : State) :
    (withdrawToCome s).pacer = { s.pacer with tracking := (withdrawToCome s).pacer.tracking } := by
  unfold withdrawToCome
  split
  · dsimp only
    split <;> rfl
  · rfl

/-- A deactivation's first steps touch the pending launch and the tracking alone of the pacer (R36, R74, R118). -/
theorem withdrawActive_pacer (s : State) :
    (withdrawActive s).pacer = { s.pacer with pending := none, tracking := (withdrawActive s).pacer.tracking } := by
  show (cancelPending s).pacer = { s.pacer with pending := none, tracking := (cancelPending s).pacer.tracking }
  unfold cancelPending
  split
  · next h => rw [← h]
  · dsimp only
    rw [withdrawToCome_pacer]
    rfl

/-- What STANDBY makes of a pacer that is not in STANDBY: a stop, with the rest timer as R80 has it. -/
theorem exists_goStandby {s : State} (h : s.pacer.state ≠ .standby) :
    ∃ r, goStandby s = settlePacer (enterStandby
        (withRest r (if s.pacer.state = .live then withdrawActive s else s)))
      ∧ r.set false s.now = restOnStop s.now s.pacer := by
  have hnot (hrest : s.pacer.state ≠ .rest) : s.pacer.restTimer.set false s.now = restOnStop s.now s.pacer := by
    rw [restOnStop_eq, if_neg hrest]
  cases hst : s.pacer.state with
  | standby => exact absurd hst h
  | freeRun | hold =>
    exact ⟨s.pacer.restTimer, by simp only [goStandby, hst]; rfl, hnot (by simp [hst])⟩
  | live =>
    refine ⟨(withdrawActive s).pacer.restTimer, by simp only [goStandby, hst]; rfl, ?_⟩
    rw [withdrawActive_pacer]
    exact hnot (by simp [hst])
  | rest =>
    refine ⟨s.pacer.loadedRest, by simp only [goStandby, hst]; rfl, ?_⟩
    rw [← restOnStop_set, restOnStop_eq, if_pos hst]

/-- Settles O19: by the pacer's state; each way out of it ends in the same stop. -/
theorem standbyStopsThePanel : Obligations.StandbyStopsThePanel := by
  intro t s ps hs
  have hreplied : ps = [] → ∀ s', goStandby (tick t s) = s' →
      exec (.standby t) s = .next (replied 0x13#8 .ok [BitVec.ofNat 8 s.pacer.state.code] s') := by
    rintro rfl s' rfl
    rw [← be_one (pacerStateCode_lt _)]
    exact exec_eq_replied rfl hs rfl
  refine ⟨fun h => exec_eq_refused rfl hs (if_pos h), fun h hst => ?_, fun h hst => ?_⟩
  · rw [hreplied h (tick t s) (by simp only [goStandby, tick_pacer, hst]), hst]
    rfl
  · intro s1 s2
    obtain ⟨r, hgo, hr⟩ := exists_goStandby (s := tick t s) hst
    rw [settlePacer_enterStandby] at hgo
    have hs1 : s1 = withdrawActive (tick t s) ∨ s1 = tick t s := by
      by_cases hlive : s.pacer.state = .live
      · exact .inl (if_pos hlive)
      · exact .inr (if_neg hlive)
    have hnow : s1.now = max s.now t := by
      obtain h1 | h1 := hs1 <;> simp [h1]
    have hkept : s1.pacer.last = s.pacer.last ∧ s1.pacer.holdTime = s.pacer.holdTime
        ∧ s1.pacer.restTime = s.pacer.restTime ∧ s1.pacer.wakeOnSource = s.pacer.wakeOnSource := by
      obtain h1 | h1 := hs1
      · rw [h1, withdrawActive_pacer]
        exact ⟨rfl, rfl, rfl, rfl⟩
      · rw [h1]
        exact ⟨rfl, rfl, rfl, rfl⟩
    refine ⟨_, hreplied h _ hgo, rfl, (congrArg (Timer.set false · r) hnow).trans hr, ?_⟩
    obtain ⟨q, tr, hstop⟩ := exists_portStop s1
    have hs2 : s2 = { s1 with panel := q, pacer := { s1.pacer with tracking := tr } } := hstop s1 rfl rfl rfl
    show s2.pacer.last = _ ∧ s2.pacer.holdTime = _ ∧ s2.pacer.restTime = _ ∧ s2.pacer.wakeOnSource = _
    rw [hs2]
    exact hkept

/-! ### RESET_PART -/

/-- A figures text reads the periods, the plan, the last interval and lag, and the catalogue alone (R141). -/
theorem textOf_congr {s s' : State} (hperiods : s'.mon.periods = s.mon.periods) (hplan : s'.plan = s.plan)
    (hinterval : s'.pacer.lastInterval = s.pacer.lastInterval) (hlag : s'.pacer.lastLag = s.pacer.lastLag)
    (hcat : s'.cat = s.cat) (kind : WindowKind) : textOf s' kind = textOf s kind := by
  have hrow : rowText s' = rowText s := by
    funext x
    cases x <;> simp only [rowText, activeRecord, hperiods, hplan, hinterval, hlag, hcat]
  cases kind <;> simp only [textOf, hrow]

/-- A window at a part reset, with its text latched (R145). -/
theorem latch_partReset (s : State) (w : Window) :
    (w.partReset).latch s = { w with
      state := if w.state = .shown then .hidden else w.state
      dropped := 0
      text := (w.definition.map fun d => textOf s d.kind).getD w.text
      launches := if w.definition.isSome then 0 else w.launches } := by
  rcases w with ⟨state, _ | d, dropped, text, launches⟩ <;> rfl

/-- The state the texts are latched from at a part reset: the monitor, the catalogue, the plan, the pacer, the store and the
port have been reset before it. -/
def stoppedForReset (s : State) : State :=
  portStop (((((s.setMon .reset).setCat (s.cat.map ModeRecord.partReset)).setPlan none).setPacer
    (s.pacer.partReset s.now)).setStore .reset)

theorem stoppedForReset_eq (s : State) :
    stoppedForReset s = { s with
      mon := .reset, cat := s.cat.map ModeRecord.partReset, plan := none, store := .reset, panel := (portStop s).panel
      pacer := { s.pacer.partReset s.now with tracking := (portStop s).pacer.tracking } } :=
  portStop_eq rfl rfl rfl

theorem partReset_restTimer (now : Nat) (p : Pacer) :
    (p.partReset now).restTimer.set false now = restOnStop now p := by
  rw [← restOnStop_set, restOnStop_eq]
  rfl

/-- What a part reset leaves of the whole state (R169). -/
theorem partReset_eq (s : State) :
    partReset s = { stoppedForReset s with
      pacer := { s.pacer.partReset s.now with
        tracking := (portStop s).pacer.tracking, restTimer := restOnStop s.now s.pacer }
      overlay := { s.overlay with
        windows := s.overlay.windows.map fun w => (w.partReset).latch (stoppedForReset s), writePtr := 0 }
      stage := .reset, ctl := s.ctl.partReset, ev := { s.ev with flags := 0#16 } } := by
  have hreset : partReset s = settlePacer (((clearFlags ((resetOverlay (stoppedForReset s)).setStage .reset))).setCtl
      s.ctl.partReset) := by
    simp only [partReset, stoppedForReset]
    simp
  rw [hreset, settlePacer_of_stopped (.inl (by simp [stoppedForReset_eq, Pacer.partReset])), ← partReset_restTimer]
  simp only [stoppedForReset_eq]
  rfl

/-- Settles O17: each block as the part reset leaves it. -/
theorem resetPartReturnsRunningState : Obligations.ResetPartReturnsRunningState := by
  intro t s ps hs
  refine ⟨fun h => exec_eq_refused rfl hs (if_pos h), ?_⟩
  rintro rfl
  refine ⟨_, exec_eq_replied rfl hs rfl, ?_⟩
  have hall := partReset_eq (tick t s)
  have hfinal (d : List Byte) : (replied 0x15#8 .ok d (partReset (tick t s))) = replied 0x15#8 .ok d _ := congrArg _ hall
  have htext (d : List Byte) :
      textOf (replied 0x15#8 .ok d (partReset (tick t s))) = textOf (stoppedForReset (tick t s)) := by
    funext kind
    rw [hfinal]
    apply textOf_congr <;> rw [stoppedForReset_eq] <;> rfl
  rw [htext, hfinal, stoppedForReset_eq]
  refine ⟨rfl, rfl, rfl, rfl, rfl, ?_, rfl, rfl, rfl, ?_, rfl, rfl⟩
  · exact ⟨rfl, rfl, rfl, rfl, rfl, rfl, rfl, rfl, rfl, rfl, rfl, rfl, rfl⟩
  · exact ⟨rfl, rfl, List.map_congr_left fun w _ => latch_partReset _ w⟩

end Sys2Proof.Proofs.PartReset
end

section
/-! PROOFS. The requests of the Control Port, the Event Unit and the Change Stage's group (O11, O13, O14, O15, O16). -/

namespace Sys2Proof.Proofs.PortAndGroup

open Sys2Proof Sys2Proof.Machine Sys2Proof.Cert Sys2Proof.Proofs.Basics Sys2Proof.Proofs.Commands

/-! ### UNKNOWN_CODE and IDENTIFY -/

theorem serveUnknown_of_unknown {s : State} {code : Byte} {ps : List Byte} (t : Nat) (hs : Serving s code ps)
    (h : knownCode code = false) : serveUnknown t s = refused code .badCode ps t s := by
  simp only [serveUnknown, show s.ctl.processing = _ from hs, h, finish_spec]
  rfl

/-- Settles O11: a code is in the summary table exactly when one of the request commands serves it. -/
theorem unknownCodeAndIdentify : Obligations.UnknownCodeAndIdentify := by
  intro t s ps
  refine ⟨fun code hs h => ?_, fun hs => ⟨fun h => exec_eq_refused rfl hs (if_pos h), ?_⟩⟩
  · have hunknown : knownCode code = false := by
      rw [← Bool.not_eq_true, knownCode_iff t code]
      exact h
    exact congrArg Host.Outcome.next (serveUnknown_of_unknown t hs hunknown)
  · rintro rfl
    exact exec_eq_replied rfl hs rfl

/-! ### The flags as bits -/

theorem getLsbD_replyBit (i : Nat) : replyBit.getLsbD i = decide (i = 0) := by
  have h : replyBit = 1#16 := rfl
  rw [h, BitVec.getLsbD_one]
  simp

theorem getLsbD_unusedBits (i : Nat) : unusedBits.getLsbD i = decide (14 ≤ i ∧ i < 16) := by
  by_cases hi : i < 16
  · interval_cases i <;> rfl
  · rw [BitVec.getLsbD_of_ge _ _ (Nat.not_lt.mp hi)]
    simp [hi]

/-- A 16-bit field meets no unused position exactly when its bits from 14 on are 0 (R180). -/
theorem and_unusedBits_eq_zero_iff (x : BitVec 16) : x &&& unusedBits = 0#16 ↔ ∀ i, 14 ≤ i → x.getLsbD i = false := by
  rw [BitVec.eq_of_getLsbD_eq_iff]
  simp only [BitVec.getLsbD_and, getLsbD_unusedBits, BitVec.getLsbD_zero, Bool.and_eq_false_iff, decide_eq_false_iff_not]
  constructor
  · intro h i hi
    by_cases hlt : i < 16
    · exact (h i hlt).resolve_right (by simp [hi, hlt])
    · exact BitVec.getLsbD_of_ge x i (Nat.not_lt.mp hlt)
  · intro h i _
    by_cases hi : 14 ≤ i
    · exact .inl (h i hi)
    · exact .inr fun hc => hi hc.1

theorem and_eq_zero_iff (x y : BitVec 16) : x &&& y = 0#16 ↔ ∀ i, ¬(x.getLsbD i = true ∧ y.getLsbD i = true) := by
  rw [BitVec.eq_of_getLsbD_eq_iff]
  simp only [BitVec.getLsbD_and, BitVec.getLsbD_zero, ← Bool.and_eq_true, Bool.not_eq_true]
  constructor
  · intro h i
    by_cases hlt : i < 16
    · exact h i hlt
    · rw [BitVec.getLsbD_of_ge x i (Nat.not_lt.mp hlt), Bool.false_and]
  · exact fun h i _ => h i

/-- No flag but REPLY is set (R174). -/
theorem and_not_replyBit_eq_zero_iff (x : BitVec 16) :
    x &&& ~~~replyBit = 0#16 ↔ ∀ i, 1 ≤ i → x.getLsbD i = false := by
  rw [and_eq_zero_iff]
  simp only [BitVec.getLsbD_not, getLsbD_replyBit]
  constructor
  · intro h i hi
    by_cases hlt : i < 16
    · simpa [hlt, Nat.ne_of_gt hi] using h i
    · exact BitVec.getLsbD_of_ge x i (Nat.not_lt.mp hlt)
  · rintro h i ⟨hx, hn⟩
    have hi : 1 ≤ i := Nat.one_le_iff_ne_zero.mpr (by simp only [Bool.and_eq_true] at hn; simpa using hn.2)
    simp [h i hi] at hx

theorem getLsbD_flagWord (s : State) (i : Nat) :
    (flagWord s).getLsbD i = if i = 0 then !s.ctl.replies.isEmpty else s.ev.flags.getLsbD i := by
  by_cases hi : i < 16
  · by_cases h0 : i = 0 <;> cases hr : s.ctl.replies.isEmpty <;>
      simp [flagWord, -BitVec.getLsbD_eq_getElem, getLsbD_replyBit, hi, h0, hr]
  · have hpos : i ≠ 0 := by omega
    simp [BitVec.getLsbD_of_ge _ _ (Nat.not_lt.mp hi), hpos]

/-! ### EVENT_MASK and EVENT_READ -/

/-- Settles O13: the checks are those of the body, read bit by bit. -/
theorem eventMaskSetsTheMask : Obligations.EventMaskSetsTheMask := by
  intro t s ps hs on off
  have hunused : (∃ i, 14 ≤ i ∧ (on.getLsbD i = true ∨ off.getLsbD i = true)) ↔ (on ||| off) &&& unusedBits ≠ 0#16 := by
    rw [Ne, and_unusedBits_eq_zero_iff]
    simp [BitVec.getLsbD_or, or_iff_not_imp_left]
  have hboth : (∃ i, on.getLsbD i = true ∧ off.getLsbD i = true) ↔ on &&& off ≠ 0#16 := by
    rw [Ne, and_eq_zero_iff]
    simp
  refine ⟨fun h => exec_eq_refused rfl hs (if_pos h), fun h hbits => ?_, fun h hbits => ?_, fun h hfree hapart => ?_⟩
  · refine exec_eq_refused rfl hs ?_
    rw [bodyEventMask, if_neg (by omega), if_pos (hunused.mp hbits)]
  · refine exec_eq_refused rfl hs ?_
    rw [bodyEventMask, if_neg (by omega), if_pos (hboth.mp hbits), ite_self]
  · refine ⟨(s.ev.mask ||| on) &&& ~~~off, fun i => ?_, exec_eq_replied rfl hs ?_⟩
    · by_cases hi : i < 16
      · simp [hi]
      · simp [BitVec.getLsbD_of_ge _ i (Nat.not_lt.mp hi)]
    · have hused : ¬(on ||| off) &&& unusedBits ≠ 0#16 := by
        rw [← hunused]
        rintro ⟨i, hi, hon | hoff⟩
        · simp [(hfree i hi).1] at hon
        · simp [(hfree i hi).2] at hoff
      have hnotBoth : ¬on &&& off ≠ 0#16 := by
        rw [← hboth]
        exact fun ⟨i, hi⟩ => hapart i hi
      rw [bodyEventMask, if_neg (by omega), if_neg hused, if_neg hnotBoth]
      rfl

/-- Settles O14: what EVENT_READ looks at are the flags but REPLY. -/
theorem eventReadReportsAndClears : Obligations.EventReadReportsAndClears := by
  intro t s ps hs
  refine ⟨fun h => exec_eq_refused rfl hs (if_pos h), ?_, ?_⟩
  · rintro rfl hnone
    exact exec_eq_refused rfl hs (if_pos ((and_not_replyBit_eq_zero_iff s.ev.flags).mpr hnone))
  · rintro rfl ⟨i, hi, hset⟩
    refine ⟨flagWord s, getLsbD_flagWord s 0, fun j hj => ?_, exec_eq_replied rfl hs ?_⟩
    · rw [getLsbD_flagWord, if_neg (by omega)]
    · have hsome : ¬s.ev.flags &&& ~~~replyBit = 0#16 := fun h => by
        simp [(and_not_replyBit_eq_zero_iff s.ev.flags).mp h i hi] at hset
      exact if_neg hsome

/-! ### GROUP_OPEN and GROUP_CLOSE -/

/-- An edit accepted with a group open joins the list and nothing is applied (R146, R154). -/
theorem acceptEdit_of_open {s : State} (h : s.stage.groupOpen = true) (e : Edit) :
    acceptEdit e s = s.setStage { s.stage with edits := s.stage.edits ++ [e] } := by
  unfold acceptEdit
  cases s.pacer.state
  case standby | rest => exact applicationPoint_of_open h
  all_goals rfl

/-- Settles O15: the flag is the one check, and an application point that finds it set passes. -/
theorem groupOpenHoldsTheStage : Obligations.GroupOpenHoldsTheStage := by
  refine ⟨fun t s ps hs => ⟨fun h => ⟨_, exec_eq_refused rfl hs (if_pos h)⟩, ?_, ?_⟩, fun s h => ?_⟩
  · rintro rfl hopen
    exact ⟨_, exec_eq_refused rfl hs (if_pos hopen)⟩
  · rintro rfl hclosed
    exact ⟨_, exec_eq_replied rfl hs (by
      rw [bodyGroupOpen, if_neg (by simp), if_neg (by simp [hclosed])]
      rfl)⟩
  · exact ⟨applicationPoint_of_open h, fun e => acceptEdit_of_open h e⟩

/-- What a GROUP_CLOSE that is not refused leaves. -/
theorem exec_groupClose {t : Nat} {s : State} (hs : Serving s 0x19#8 []) (hopen : s.stage.groupOpen = true) :
    exec (.groupClose t) s = .next (replied 0x19#8 .ok
      (be 1 s.stage.edits.length ++ be 1 (closeGroup (tick t s)).2) (closeGroup (tick t s)).1) :=
  exec_eq_replied rfl hs (by
    rw [bodyGroupClose, if_neg (by simp), if_neg (by simp [hopen])]
    rfl)

/-- Settles O16: by the pacer's state. -/
theorem groupCloseReleasesTheStage : Obligations.GroupCloseReleasesTheStage := by
  intro t s ps hs closed held
  refine ⟨fun h => exec_eq_refused rfl hs (if_pos h), ?_, ?_, ?_⟩
  · rintro rfl hclosed
    exact exec_eq_refused rfl hs (if_pos hclosed)
  · rintro rfl hopen hstate
    have hclose : closeGroup (tick t s) = (closed, 0) := by
      simp only [List.mem_cons, List.not_mem_nil, or_false] at hstate
      obtain h | h | h := hstate <;> simp only [closeGroup, tick_pacer, h] <;> rfl
    rw [exec_groupClose hs hopen, hclose, show be 1 0 = [0x00#8] from rfl]
  · rintro rfl hopen hstate
    have hpoint : applicationPoint closed = if s.stage.edits = [] then closed else applyList s.stage.edits closed := by
      simp [applicationPoint, closed]
    have hclose : closeGroup (tick t s) = (settlePacer (applicationPoint closed), s.stage.edits.length) := by
      simp only [List.mem_cons, List.not_mem_nil, or_false] at hstate
      obtain h | h := hstate <;> simp only [closeGroup, tick_pacer, h] <;> rfl
    rw [exec_groupClose hs hopen, hclose, hpoint]

end Sys2Proof.Proofs.PortAndGroup
end

section
/-! PROOFS. The requests of the pacer and the monitor: START, WAKE, SET_TIMERS, PACING_READ and OBSERVE. -/

namespace Sys2Proof.Proofs.PacerRequests

open Sys2Proof Sys2Proof.Machine Sys2Proof.Cert Sys2Proof.Proofs.Basics Sys2Proof.Proofs.Fields

/-! ### START and WAKE -/

/-- Of the pacer a switch changes the tracking alone (R118). -/
theorem panelSwitch_pacer (p : Nat) (toCome : Bool) (s : State) :
    (panelSwitch p toCome s).pacer = { s.pacer with tracking := (panelSwitch p toCome s).pacer.tracking } := by
  rcases s with ⟨_, _, _, _, _, _, _, ⟨_, st, _, ph, _, _, _, _, _, _, _⟩, _, _, _, _⟩
  cases ph <;> cases st <;> cases toCome <;> rfl

/-- Of the pacer a switch request changes the schedule, which is emptied, and the tracking (R78). -/
theorem requestSwitch_pacer (p : Nat) (s : State) :
    (requestSwitch p s).pacer = { s.pacer with schedule := [], tracking := (requestSwitch p s).pacer.tracking } :=
  panelSwitch_pacer p _ _

/-- The rest timer loaded on the way into FREE_RUN runs while the monitor is in NO_SIGNAL (R80). -/
theorem loadedRest_set_of_freeRun (p : Pacer) (noSignal : Prop) [Decidable noSignal] (now : Nat) :
    p.loadedRest.set (decide (noSignal ∧ p.restTime ≠ 0)) now
      = if p.restTime = 0 then .stopped
        else if noSignal then .running (now + p.restTime * 10000000) else .paused (p.restTime * 10000000) := by
  by_cases hrest : p.restTime = 0
  · simp [Pacer.loadedRest, hrest, Timer.set]
  · by_cases hsignal : noSignal <;> simp [Pacer.loadedRest, hrest, hsignal, Timer.set, Config.tenthTicks]

/-- The time of the periodic launch scheduled on entry to FREE_RUN: the latest of now, L_last + FR and e (R66). -/
theorem max_now_periodAfterLast (s : State) :
    max s.now (periodAfterLast s) = match s.pacer.last with
      | none => s.now
      | some l => max s.now (max (l.time + (currentProfile s).fr) (l.time + l.spacing)) := by
  unfold periodAfterLast
  cases s.pacer.last <;> simp

/-- Into FREE_RUN with the monitor not SETTLED (R66, R80, R81): no lookup follows. -/
theorem settlePacer_leaveRest {s s' : State} (h : s.mon.state ≠ .settled) (hs' : settlePacer (leaveRest s) = s') :
    s' = { s with pacer := { s.pacer with
          state := .freeRun
          schedule := s'.pacer.schedule
          restTimer := s'.pacer.restTimer
          deadline := s'.pacer.deadline } }
      ∧ s'.pacer.schedule = (if s.pacer.tracking = .noSwitch then
          [{ time := max s.now (periodAfterLast s), reason := .periodic, kind := .generated }] else [])
      ∧ s'.pacer.restTimer = (if s.pacer.restTime = 0 then .stopped
          else if s.mon.state = .noSignal then .running (s.now + s.pacer.restTime * 10000000)
          else .paused (s.pacer.restTime * 10000000))
      ∧ s'.pacer.deadline = armedDeadline s' := by
  have hlookup : leaveRest s = enterFreeRun (loadRest s) := requestLookup_of_not_runs (by simp [lookupRuns, h])
  subst hs'
  rw [hlookup, ← loadedRest_set_of_freeRun]
  refine ⟨rfl, rfl, ?_, rfl⟩
  simp [settlePacer, rearm, syncRest, restRuns, enterFreeRun, periodicOnEntry, periodicAt, setPacerState, loadRest]

/-- Settles O18: START's refusals, and its way into FREE_RUN. -/
theorem startEntersFreeRun : Obligations.StartEntersFreeRun := by
  intro t s ps hs p
  have hreplied (hlen : ps.length = 1) (hp : p ≤ 3) (hst : s.pacer.state = .standby)
      (hvalid : (profileAt s p).valid = true) :
      exec (.start t) s = .next (replied 0x12#8 .ok [] (startOn p (tick t s))) := by
    exact exec_eq_replied rfl hs ((if_neg (not_not.mpr hlen)).trans ((if_neg (by change ¬4 ≤ p; omega)).trans
      ((if_neg (not_not.mpr hst)).trans (if_neg (ne_false_of_eq_true hvalid)))))
  refine ⟨fun h => exec_eq_refused rfl hs (if_pos h), fun hlen hp => ?_, fun hlen hp hst => ?_,
    fun hlen hp hst hvalid => ?_, fun hlen hp hst hvalid hmon => ?_, fun hlen hp hst hvalid hmon => ?_⟩
  · exact exec_eq_refused rfl hs ((if_neg (not_not.mpr hlen)).trans (if_pos hp))
  · exact exec_eq_refused rfl hs ((if_neg (not_not.mpr hlen)).trans ((if_neg (by change ¬4 ≤ p; omega)).trans
      (if_pos hst)))
  · exact exec_eq_refused rfl hs ((if_neg (not_not.mpr hlen)).trans ((if_neg (by change ¬4 ≤ p; omega)).trans
      ((if_neg (not_not.mpr hst)).trans (if_pos hvalid))))
  · intro s1
    have hs1 : s1 = atTime t s ∨ s1 = requestSwitch p (atTime t s) := by
      by_cases hcurrent : s.panel.current = some p
      · exact .inl (if_pos hcurrent)
      · exact .inr (if_neg hcurrent)
    have hmon1 : s1.mon = s.mon := by
      obtain h | h := hs1 <;> rw [h]
      · rfl
      · simp [atTime]
    have hrest1 : s1.pacer.restTime = s.pacer.restTime := by
      obtain h | h := hs1 <;> rw [h]
      · rfl
      · rw [requestSwitch_pacer]
        rfl
    obtain ⟨hs', hschedule, hrest, hdeadline⟩ := settlePacer_leaveRest (s := s1) (by rwa [hmon1]) rfl
    rw [max_now_periodAfterLast] at hschedule
    rw [hmon1, hrest1] at hrest
    exact ⟨_, hreplied hlen hp hst hvalid, hs', hschedule, hrest, hdeadline⟩
  · exact hreplied hlen hp hst hvalid

/-- Settles O20: WAKE's refusals, and its way into FREE_RUN. -/
theorem wakeLeavesRest : Obligations.WakeLeavesRest := by
  intro t s ps hs
  have hreplied (hlen : ps = []) (hst : s.pacer.state = .rest) (hvalid : (currentProfile s).valid = true) :
      exec (.wake t) s = .next (replied 0x14#8 .ok [] (settlePacer (leaveRest (tick t s)))) := by
    subst hlen
    exact exec_eq_replied rfl hs ((if_neg (not_not.mpr hst)).trans (if_neg (ne_false_of_eq_true hvalid)))
  refine ⟨fun h => exec_eq_refused rfl hs (if_pos h), fun hlen hst => ?_, fun hlen hst hvalid => ?_,
    fun hlen hst hvalid hmon => ?_, fun hlen hst hvalid _ => hreplied hlen hst hvalid⟩
  · subst hlen
    exact exec_eq_refused rfl hs (if_pos hst)
  · subst hlen
    exact exec_eq_refused rfl hs ((if_neg (not_not.mpr hst)).trans (if_pos hvalid))
  · intro s1
    obtain ⟨hs', hschedule, hrest, hdeadline⟩ := settlePacer_leaveRest (s := s1) hmon rfl
    rw [max_now_periodAfterLast] at hschedule
    exact ⟨_, hreplied hlen hst hvalid, hs', hschedule, hrest, hdeadline⟩

/-! ### SET_TIMERS -/

/-- The parameters of a SET_TIMERS are the settings its reply gives (R85). -/
theorem setTimers_data {ps : List Byte} (h : ps.length = 4) :
    be 1 (field ps 0 1) ++ be 2 (field ps 1 2) ++ be 1 (field ps 3 1) = ps := by
  rw [be_field (by omega), be_field (by omega), be_field (by omega)]
  obtain ⟨a, b, c, d, rfl⟩ : ∃ a b c d, ps = [a, b, c, d] := by
    match ps, h with
    | [a, b, c, d], _ => exact ⟨a, b, c, d, rfl⟩
  rfl

/-- Settles O21: the two refusals, then the three settings and the timer they load. -/
theorem setTimersWritesTheSettings : Obligations.SetTimersWritesTheSettings := by
  intro t s ps hs hold rest
  refine ⟨fun h => exec_eq_refused rfl hs (if_pos h), fun hlen hwake => ?_, fun hlen hwake => ?_⟩
  · refine exec_eq_refused rfl hs ?_
    rw [bodySetTimers, if_neg (by omega), if_pos hwake]
  · refine ⟨setTimers hold rest (field ps 3 1 == 1) (tick t s), exec_eq_replied rfl hs ?_, rfl, ?_, rfl⟩
    · rw [bodySetTimers, if_neg (by omega), if_neg (by omega), setTimers_data hlen]
      rfl
    · rw [← loadedRest_set_of_freeRun { s.pacer with restTime := rest }]
      simp only [and_assoc]
      rfl

/-! ### PACING_READ and OBSERVE -/

theorem pacingReport_length (s : State) : (pacingReport s).length = 53 := by
  have hplan : (planReport s.plan).length = 17 := by
    cases s.plan <;> simp [planReport]
  simp [pacingReport, hplan]

/-- Settles O22: the report has the layout of R181, part by part. -/
theorem pacingReadReportsThePacer : Obligations.PacingReadReportsThePacer := by
  intro t s ps hs now p tenths bit data
  have htenths (x : Timer) : tenths x = be 2 (tenthsLeft x now) := by
    have hround (n : Nat) : ceilDiv n Config.tenthTicks = (n + 9999999) / 10000000 := by
      show (n + 10000000 - 1) / 10000000 = _
      rw [show n + 10000000 - 1 = n + 9999999 by omega]
    rw [tenthsLeft, hround]
    cases x <;> rfl
  have hbit (set : Bool) (weight : Nat) : bit set weight = weight * boolCode set := by
    cases set <;> simp [bit, boolCode]
  have hdata : data = pacingReport (tick t s) := by
    refine append_congr ?_ ?plan
    refine append_congr ?_ ?deadline
    refine append_congr ?_ ?head
    refine append_congr ?_ rfl
    refine Eq.trans (append_congr ?_ ?pending) (List.append_assoc _ _ _).symm
    refine append_congr (append_congr ?_ rfl) rfl
    refine append_congr ?_ ?valid
    refine append_congr ?_ ?since
    refine append_congr ?_ ?last
    refine append_congr (append_congr (append_congr rfl (be_boolCode _).symm) (htenths _)) (htenths _)
    case last =>
      refine congrArg (fun x => [x]) ?_
      cases hlast : p.last with
      | none => simp [lastLaunchByte, hlast, p]
      | some l =>
        simp only [lastLaunchByte, tick_pacer, show s.pacer.last = some l from hlast]
        rw [Nat.add_comm]
        rfl
    case since => cases hlast : p.last <;> simp [hlast, p, now]
    case valid => simp only [hbit, Nat.one_mul]; rfl
    case pending =>
      have hzero : be 3 0 ++ [0#8] = [0#8, 0#8, 0#8, 0#8] := rfl
      rcases hpending : p.pending with _ | ⟨_, _, _, _ | _ | _⟩ <;> simp [hpending, p, DeferClass.code, be_one, hzero]
    case head => cases hschedule : p.schedule <;> simp [hschedule, p, now]
    case deadline => cases hdeadline : p.deadline <;> simp [hdeadline, p, now]
    case plan => cases hplan : s.plan <;> simp [planReport, hplan, be_boolCode]
  refine ⟨fun h => exec_eq_refused rfl hs (if_pos h), ?_, hdata ▸ pacingReport_length _, fieldRules⟩
  rintro rfl
  rw [hdata]
  exact exec_eq_replied rfl hs rfl

theorem estimate_getD (periods : List Nat) :
    (estimate periods).getD 0 = if periods = [] then 0 else periods.sum / periods.length := by
  cases periods <;> rfl

/-- Settles O23: the report part by part, and the latch cleared. -/
theorem observeReportsTheSource : Obligations.ObserveReportsTheSource := by
  intro t s ps hs
  refine ⟨fun h => exec_eq_refused rfl hs (if_pos h), ?_⟩
  rintro rfl
  rw [← estimate_getD]
  refine exec_eq_replied rfl hs ?_
  have hformat (f : Format) : be 1 (formatCode f) = [if f = .full then 1#8 else 2#8] := by cases f <;> rfl
  have hdepth (d : Depth) : be 1 (depthCode d) = [if d = .d8 then 1#8 else 2#8] := by cases d <;> rfl
  have hvrr (b : Bool) : be 1 (vrrCode b) = [if b then 2#8 else 1#8] := by cases b <;> rfl
  simp only [bodyObserve, observeReport, hformat, hdepth, hvrr, be_boolCode, List.append_assoc]
  rfl

end Sys2Proof.Proofs.PacerRequests
end

section
/-! PROOFS. The requests of the catalogue: CAT_READ, CAT_STATS, CAT_LOCK and CAT_FIND (O25, O27). -/

namespace Sys2Proof.Proofs.CatalogueRequests

open Sys2Proof Sys2Proof.Machine Sys2Proof.Cert Sys2Proof.Proofs.Basics Sys2Proof.Proofs.Fields

/-! ### CAT_READ -/

theorem stored_of_free {r : ModeRecord} (h : r.state = .free) : r.stored = none := by
  rw [ModeRecord.stored, h]

theorem stored_of_not_free {r : ModeRecord} (h : r.state ≠ .free) : r.stored = r.content := by
  cases hst : r.state with
  | free => exact absurd hst h
  | ready | active => rw [ModeRecord.stored, hst]

theorem recordReport_of_free {r : ModeRecord} (h : r.state = .free) :
    recordReport r = [if r.locked then 0x80#8 else 0x00#8] := by
  rw [recordReport, stored_of_free h, recordHeader, h]
  cases r.locked <;> rfl

theorem planBlock_eq (p : Plan) : planBlock p = planBytes p := by
  rw [planBlock, planBytes, be_boolCode]
  rfl

/-- CAT_READ's report of a stored record, part by part (R39, R181). -/
theorem recordReport_of_stored {r : ModeRecord} {c : Content} (h : r.state ≠ .free) (hc : r.content = some c) :
    recordReport r = [recordHeader r c.pacing.redraw.code (boolCode c.pacing.given)]
      ++ [byte (r.fit.code + 16 * r.fit.reasonCode)] ++ keyBytes c.key ++ presentBytes c.present ++ be 3 c.pacing.ceiling
      ++ be 1 c.label.length ++ c.label.map charOf ++ fitBlock r.fit := by
  simp only [recordReport, stored_of_not_free h, hc]

theorem if_eq_mul_boolCode (b : Bool) (weight : Nat) : (if b then weight else 0) = weight * boolCode b := by
  cases b <;> simp [boolCode]

theorem if_eq_mul_redrawCode (m : RedrawMode) (weight : Nat) :
    (if m = .deadline then weight else 0) = weight * m.code := by
  cases m <;> simp [RedrawMode.code]

/-! ### Refusals and replies -/

/-- Settles O25: each request's refusals in the order of its body; the reports are laid out field by field. -/
theorem catReadStatsAndLock : Obligations.CatReadStatsAndLock := by
  intro t s ps slot r
  refine ⟨fun hs => ⟨fun h => exec_eq_refused rfl hs (if_pos h), fun hlen hslot => ?_, fun hlen hslot => ?_,
    recordReport_of_free, fun c hst hc => ?_⟩, fun hs => ⟨fun h => exec_eq_refused rfl hs (if_pos h), fun hlen hslot => ?_,
    fun hlen hslot hclear => ?_, fun hlen hslot hclear hst => ?_, fun hlen hslot hclear hst => ?_⟩,
    fun hs => ⟨fun h => exec_eq_refused rfl hs (if_pos h), fun hlen hslot => ?_, fun hlen hslot => ?_⟩⟩
  · exact exec_eq_refused rfl hs ((if_neg (not_not.mpr hlen)).trans (if_pos hslot))
  · exact exec_eq_replied rfl hs ((if_neg (not_not.mpr hlen)).trans (if_neg (Nat.not_lt.mpr hslot)))
  · intro k p
    refine (recordReport_of_stored hst hc).trans ?_
    simp only [keyBytes, presentBytes, colourBytes, ← List.append_assoc]
    refine append_congr ?_ ?plan
    iterate 11 refine append_congr ?_ rfl
    refine append_congr ?_ ?mode
    refine append_congr ?_ ?packed
    refine append_congr (append_congr (append_congr (append_congr ?_ ?width) ?height) ?low) ?high
    refine congrArg₂ (fun a b => [a, b]) ?header ?fit
    case plan => cases r.fit <;> simp only [fitBlock, planBlock_eq]
    case mode => cases p.mode <;> simp [p, SizeMode.code, byte]
    case low => cases k.window <;> simp [anyCode]
    case high => cases k.window <;> simp [anyCode]
    case width => cases k.width <;> simp [anyCode]
    case height => cases k.height <;> simp [anyCode]
    case packed =>
      refine congrArg (fun n => [BitVec.ofNat 8 n]) (congrArg₂ (· + 16 * ·) (congrArg₂ (· + 4 * ·) ?_ ?_) ?_)
      · rcases k.format with _ | _ | _ <;> simp [anyCode, formatCode]
      · rcases k.depth with _ | _ | _ <;> simp [anyCode, depthCode]
      · rcases k.vrr with _ | _ | _ <;> simp [anyCode, vrrCode]
    case header => simp only [recordHeader, byte, if_eq_mul_boolCode, if_eq_mul_redrawCode]
    case fit => rcases r.fit with _ | _ | _ <;> simp [Fit.code, Fit.reasonCode, byte]
  · exact exec_eq_refused rfl hs ((if_neg (not_not.mpr hlen)).trans (if_pos hslot))
  · exact exec_eq_refused rfl hs ((if_neg (not_not.mpr hlen)).trans ((if_neg (Nat.not_lt.mpr hslot)).trans
      (if_pos hclear)))
  · exact exec_eq_refused rfl hs ((if_neg (not_not.mpr hlen)).trans ((if_neg (Nat.not_lt.mpr hslot)).trans
      ((if_neg (Nat.not_lt.mpr hclear)).trans (if_pos hst))))
  · have heffect : (if field ps 1 1 = 1 then clearStats slot (tick t s) else tick t s) = if field ps 1 1 = 0 then atTime t s
        else { s with now := max s.now t, cat := s.cat.set slot { r with stats := .zero } } := by
      obtain h | h : field ps 1 1 = 0 ∨ field ps 1 1 = 1 := by omega
      · rw [h]; rfl
      · rw [h]; rfl
    rw [← heffect]
    exact exec_eq_replied rfl hs ((if_neg (not_not.mpr hlen)).trans ((if_neg (Nat.not_lt.mpr hslot)).trans
      ((if_neg (Nat.not_lt.mpr hclear)).trans (if_neg hst))))
  · exact exec_eq_refused rfl hs ((if_neg (not_not.mpr hlen)).trans (if_pos hslot))
  · exact exec_eq_replied rfl hs ((if_neg (not_not.mpr hlen)).trans (if_neg (Nat.not_lt.mpr hslot)))

/-! ### CAT_FIND -/

/-- The search passes over the candidates before the first that fits (R41). -/
theorem findFit_of_fit {o : Observation} {s : State} {slot : Nat} {plan : Plan} (after : List Nat)
    (hfit : planSlot slot o s = .fit plan) (before : List Nat) (passed : Nat)
    (h : ∀ i ∈ before, ∃ reason, planSlot i o s = .unfit reason) :
    findFit o s passed (before ++ slot :: after) = some (slot, passed + before.length, plan) := by
  induction before generalizing passed with
  | nil => simp [findFit, hfit]
  | cons i rest ih =>
    obtain ⟨reason, hreason⟩ := h i List.mem_cons_self
    simp only [List.cons_append, findFit, hreason, ih (passed + 1) fun j hj => h j (List.mem_cons_of_mem i hj),
      List.length_cons, Nat.add_assoc, Nat.add_comm 1]

theorem findFit_of_unfit {o : Observation} {s : State} (l : List Nat) (passed : Nat)
    (h : ∀ i ∈ l, ∃ reason, planSlot i o s = .unfit reason) : findFit o s passed l = none := by
  induction l generalizing passed with
  | nil => rfl
  | cons i rest ih =>
    obtain ⟨reason, hreason⟩ := h i List.mem_cons_self
    simp only [findFit, hreason, ih (passed + 1) fun j hj => h j (List.mem_cons_of_mem i hj)]

/-- CAT_FIND searches with the monitor's observation or with the one supplied (R41). -/
theorem bodyCatFind_search {ps : List Byte} {s : State} {o : Observation}
    (h : (ps = [] ∧ s.mon.state = .settled ∧ o = s.mon.obs) ∨ (ps.length = 15 ∧ suppliedObservation ps = some o)) :
    bodyCatFind ps s = searchReply o ps s := by
  obtain ⟨rfl, hmon, rfl⟩ | ⟨hlen, ho⟩ := h
  · exact if_pos hmon
  · rw [bodyCatFind, if_neg (by omega), if_pos hlen, ho]

/-- Settles O27: the search walks the candidates, and stops at the first that fits. -/
theorem catFindSearchesWithoutActing : Obligations.CatFindSearchesWithoutActing := by
  intro t s ps hs
  refine ⟨fun h0 h15 => exec_eq_refused rfl hs ((if_neg h0).trans (if_neg h15)), fun h hmon => ?_, fun hlen ho => ?_,
    fun o ho => ⟨fun before slot after plan hcand hbefore hfit => ?_, fun hnone => ?_⟩⟩
  · subst h
    exact exec_eq_refused rfl hs (if_neg hmon)
  · refine exec_eq_refused rfl hs ?_
    rw [bodyCatFind, if_neg (by omega), if_pos hlen, ho]
  · refine exec_eq_replied rfl hs ((bodyCatFind_search (s := tick t s) ho).trans ?_)
    have hsearch : findFit o (tick t s) 0 (candidates s.cat o) = some (slot, before.length, plan) := by
      rw [hcand, findFit_of_fit (s := tick t s) after hfit before 0 hbefore, Nat.zero_add]
    simp only [searchReply, tick_cat, hsearch]
    rfl
  · refine exec_eq_refused rfl hs ((bodyCatFind_search (s := tick t s) ho).trans ?_)
    have hsearch : findFit o (tick t s) 0 (candidates s.cat o) = none := findFit_of_unfit _ 0 hnone
    simp only [searchReply, tick_cat, hsearch]

end Sys2Proof.Proofs.CatalogueRequests
end

section
/-! PROOFS. The requests that stage an edit: those of the windows and SET_FILL (O28), and the acceptance they end in. -/

namespace Sys2Proof.Proofs.StagedRequests

open Sys2Proof Sys2Proof.Machine Sys2Proof.Cert Sys2Proof.Proofs.Basics Sys2Proof.Proofs.Fields

/-- An edit accepted, by whether the pacer is in STANDBY or REST (R146, R148). -/
theorem settlePacer_acceptEdit (e : Edit) (s : State) : settlePacer (acceptEdit e s) = withEdit e s := by
  have hpoint : applicationPoint (s.setStage { s.stage with edits := s.stage.edits ++ [e] })
      = if s.stage.groupOpen = false then
          applyList (s.stage.edits ++ [e]) (s.setStage { s.stage with edits := s.stage.edits ++ [e] })
        else s.setStage { s.stage with edits := s.stage.edits ++ [e] } := by
    cases hopen : s.stage.groupOpen <;> simp [applicationPoint, hopen]
  simp only [withEdit, acceptEdit]
  cases hst : s.pacer.state <;> simp [hpoint] <;> rfl

/-- The last step of a staged request: STAGE_FULL, or the edit accepted (R146). -/
theorem exec_eq_staged {c : Instr} {code : Byte} {ps : List Byte} {s : State} {body : List Byte → State → Answer}
    {t : Nat} {e : Edit} {data : List Byte} (hc : exec c s = .next (serve code body t s)) (hs : Serving s code ps)
    (hb : body ps (tick t s) = stageEdit e data ps (tick t s)) : exec c s = .next (staged code e data ps t s) := by
  by_cases hfull : 16 ≤ s.stage.edits.length
  · rw [staged, if_pos hfull]
    exact exec_eq_refused hc hs (hb.trans (if_pos hfull))
  · rw [staged, if_neg hfull, ← settlePacer_acceptEdit]
    exact exec_eq_replied hc hs (hb.trans (if_neg hfull))

/-- The length of the kind part, of a kind there is (R125). -/
theorem kindLength_eq {kind : Nat} (sel : Nat) (h : kind ≤ 2) :
    kindLength kind sel = some (if kind = 0 then 0 else if kind = 1 then 5 else 3 + sel) := by
  interval_cases kind <;> rfl

theorem kindLength_eq_none {kind : Nat} (sel : Nat) (h : 2 < kind) : kindLength kind sel = none := by
  match kind, h with
  | n + 3, _ => rfl

/-- A WIN_DEFINE past its first two checks, with the kind of it known (R125). -/
theorem bodyWinDefine_of_kind {ps : List Byte} {s : State} (hlen : 15 ≤ ps.length) (hwin : firstByte ps ≤ 15)
    (hkind : field ps 1 1 ≤ 2) :
    let count := field ps 14 1
    let sel := if field ps 1 1 = 2 then field ps 17 1 else 0
    let k := if field ps 1 1 = 0 then 0 else if field ps 1 1 = 1 then 5 else 3 + sel
    bodyWinDefine ps s =
      if field ps 1 1 = 2 ∧ ps.length < 18 then refuse .badLength ps s
      else if count = 0 ∨ 15 < count ∨ 4 < sel then refuse .badValue ps s
      else if ps.length ≠ 15 + k + 4 * count then refuse .badLength ps s
      else match definitionOf ps (15 + k) with
        | none => refuse .badValue ps s
        | some d => stageEdit (.winDefine (firstByte ps) d) [] ps s := by
  intro count sel k
  rw [bodyWinDefine, if_neg (Nat.not_lt.mpr hlen),
    if_neg (show ¬Config.windowRecords ≤ field ps 0 1 from Nat.not_lt.mpr hwin),
    kindLength_eq _ hkind]
  rfl

/-- Settles O28: each request's checks in the order of its body. -/
theorem windowRequestsStageEdits : Obligations.WindowRequestsStageEdits := by
  intro t s ps win
  refine ⟨fun hs => ?define, fun hs => ?place, fun hs => ?shown, fun hs => ?retire, fun hs => ?fill⟩
  case define =>
    intro kind count sel k
    refine ⟨fun h => exec_eq_refused rfl hs (if_pos h), fun hlen hwin => ?_, fun hlen hwin hkind => ?_,
      fun hlen hwin hkind hshort => ?_, fun hlen hwin hkind hlong hbad => ?_,
      fun hlen hwin hkind hlong hpos hcount hsel => ?_⟩
    · exact exec_eq_refused rfl hs ((if_neg (Nat.not_lt.mpr hlen)).trans (if_pos hwin))
    · refine exec_eq_refused rfl hs ?_
      rw [bodyWinDefine, if_neg (Nat.not_lt.mpr hlen),
        if_neg (show ¬Config.windowRecords ≤ field ps 0 1 from Nat.not_lt.mpr hwin), kindLength_eq_none _ hkind]
    · exact exec_eq_refused rfl hs ((bodyWinDefine_of_kind hlen hwin (Nat.le_of_eq hkind)).trans
        (if_pos ⟨hkind, hshort⟩))
    · exact exec_eq_refused rfl hs ((bodyWinDefine_of_kind hlen hwin hkind).trans
        ((if_neg (by omega)).trans (if_pos hbad)))
    · have hchecked (a : Answer) (ha : (if ps.length ≠ 15 + k + 4 * count then refuse .badLength ps (tick t s)
          else match definitionOf ps (15 + k) with
            | none => refuse .badValue ps (tick t s)
            | some d => stageEdit (.winDefine win d) [] ps (tick t s)) = a) : bodyWinDefine ps (tick t s) = a :=
        (bodyWinDefine_of_kind hlen hwin hkind).trans ((if_neg (by omega)).trans
          ((if_neg (by change ¬(count = 0 ∨ 15 < count ∨ 4 < sel); omega)).trans ha))
      refine ⟨fun h => exec_eq_refused rfl hs (hchecked _ (if_pos h)), fun h hd => ?_, fun d h hd => ?_⟩
      · exact exec_eq_refused rfl hs (hchecked _ ((if_neg (not_not.mpr h)).trans (by rw [hd])))
      · exact exec_eq_staged rfl hs (hchecked _ ((if_neg (not_not.mpr h)).trans (by rw [hd])))
  case place =>
    refine ⟨fun h => exec_eq_refused rfl hs (if_pos h), fun hlen hwin => ?_, fun hlen hwin hbad => ?_,
      fun hlen hwin hx hy => ?_⟩
    · exact exec_eq_refused rfl hs ((if_neg (not_not.mpr hlen)).trans (if_pos hwin))
    · exact exec_eq_refused rfl hs ((if_neg (not_not.mpr hlen)).trans ((if_neg (Nat.not_lt.mpr hwin)).trans
        (if_pos hbad)))
    · exact exec_eq_staged rfl hs ((if_neg (not_not.mpr hlen)).trans ((if_neg (Nat.not_lt.mpr hwin)).trans
        (if_neg (by omega))))
  case shown =>
    refine ⟨fun h => exec_eq_refused rfl hs (if_pos h), fun hlen hwin => ?_, fun hlen hwin hbad => ?_,
      fun hlen hwin hoption => ?_⟩
    · exact exec_eq_refused rfl hs ((if_neg (not_not.mpr hlen)).trans (if_pos hwin))
    · exact exec_eq_refused rfl hs ((if_neg (not_not.mpr hlen)).trans ((if_neg (Nat.not_lt.mpr hwin)).trans
        (if_pos hbad)))
    · exact exec_eq_staged rfl hs ((if_neg (not_not.mpr hlen)).trans ((if_neg (Nat.not_lt.mpr hwin)).trans
        (if_neg (Nat.not_lt.mpr hoption))))
  case retire =>
    refine ⟨fun h => exec_eq_refused rfl hs (if_pos h), fun hlen hwin => ?_, fun hlen hwin => ?_⟩
    · exact exec_eq_refused rfl hs ((if_neg (not_not.mpr hlen)).trans (if_pos hwin))
    · exact exec_eq_staged rfl hs ((if_neg (not_not.mpr hlen)).trans (if_neg (Nat.not_lt.mpr hwin)))
  case fill =>
    exact ⟨fun h => exec_eq_refused rfl hs (if_pos h),
      fun hlen => exec_eq_staged rfl hs (if_neg (not_not.mpr hlen))⟩

end Sys2Proof.Proofs.StagedRequests
end

section
/-! PROOFS. A window's definition as a WIN_DEFINE gives it, and WIN_READ's reports (O29, O30). -/

namespace Sys2Proof.Proofs.WindowReports

open Sys2Proof Sys2Proof.Machine Sys2Proof.Cert Sys2Proof.Proofs.Basics Sys2Proof.Proofs.Fields

/-! ### The definition -/

theorem bindingOf_eq_none_iff (v : Nat) : bindingOf v = none ↔ ¬(v = 255 ∨ v < 48) := by
  unfold bindingOf
  split
  · simp [*]
  · split <;> simp_all [Config.catalogueSlots]

theorem bindingOf_eq_some {v : Nat} (h : v = 255 ∨ v < 48) : bindingOf v = some (if v = 255 then none else some v) := by
  unfold bindingOf
  by_cases hnone : v = 255
  · simp [hnone]
  · rw [if_neg hnone, if_neg hnone, if_pos (show v < Config.catalogueSlots from h.resolve_left hnone)]

theorem selectorOf_eq_none_iff (n : Nat) : selectorOf n = none ↔ 7 < n := by
  by_cases h : n ≤ 7
  · interval_cases n <;> simp [selectorOf]
  · obtain ⟨m, rfl⟩ := Nat.exists_eq_add_of_lt (Nat.not_le.mp h)
    simp only [show 7 + m + 1 = m + 8 by omega, selectorOf]
    simp

theorem selectorOf_code {n : Nat} {x : Selector} (h : selectorOf n = some x) : x.code = n := by
  have hn : n ≤ 7 := by
    by_contra hgt
    rw [(selectorOf_eq_none_iff n).mpr (by omega)] at h
    cases h
  interval_cases n <;> (cases h; rfl)

/-- The selectors a WIN_DEFINE names, when each code names one (R125). -/
theorem exists_selectorsOf {bs : List Byte} (h : ∀ b ∈ bs, b.toNat ≤ 7) :
    ∃ sel, selectorsOf bs = some sel ∧ sel.map Selector.code = bs.map BitVec.toNat := by
  induction bs with
  | nil => exact ⟨[], rfl, rfl⟩
  | cons b rest ih =>
    obtain ⟨xs, hxs, hcodes⟩ := ih fun x hx => h x (List.mem_cons_of_mem b hx)
    cases hx : selectorOf b.toNat with
    | none => exact absurd (h b List.mem_cons_self) (Nat.not_le.mpr ((selectorOf_eq_none_iff _).mp hx))
    | some x => exact ⟨x :: xs, by simp [selectorsOf, hx, hxs], by simp [selectorOf_code hx, hcodes]⟩

theorem selectorsOf_eq_none {bs : List Byte} (h : ∃ b ∈ bs, 7 < b.toNat) : selectorsOf bs = none := by
  induction bs with
  | nil => obtain ⟨b, hb, _⟩ := h; cases hb
  | cons b rest ih =>
    obtain ⟨x, hx, hlarge⟩ := h
    rcases List.mem_cons.mp hx with rfl | hrest
    · simp [selectorsOf, (selectorOf_eq_none_iff _).mpr hlarge]
    · simp [selectorsOf, ih ⟨x, hrest, hlarge⟩]

/-- A definition's fields that do not depend on its kind are in their ranges (R125). -/
def CommonInRange (ps : List Byte) : Prop :=
  field ps 2 2 ≤ 4095 ∧ field ps 4 2 ≤ 4095 ∧ 1 ≤ field ps 6 2 ∧ field ps 6 2 ≤ 3840
    ∧ 1 ≤ field ps 8 2 ∧ field ps 8 2 ≤ 2160 ∧ (field ps 13 1 = 255 ∨ field ps 13 1 < 48)

/-- The definition a WIN_DEFINE gives for a kind: its fields as given, clamped (R125). -/
def clampedDef (ps : List Byte) (start : Nat) (kind : WindowKind) : WindowDef :=
  { kind := kind, x := field ps 2 2, y := field ps 4 2, w := field ps 6 2, h := field ps 8 2
    z := min (field ps 10 1) 15, alpha := min (field ps 11 1) 16, scale := max 1 (min (field ps 12 1) 4)
    binding := if field ps 13 1 = 255 then none else some (field ps 13 1)
    palette := (List.range (field ps 14 1)).map fun i => paletteField ps (start + 4 * i) }

theorem definitionOf_eq_some {ps : List Byte} {kind : WindowKind} (start : Nat) (h : CommonInRange ps)
    (hkind : kindOf ps = some kind) : definitionOf ps start = some (clampedDef ps start kind) := by
  obtain ⟨hx, hy, hw1, hw, hh1, hh, hbinding⟩ := h
  simp only [definitionOf, hkind, bindingOf_eq_some hbinding]
  exact if_pos ⟨hx, hy, hw1, hw, hh1, hh⟩

theorem definitionOf_of_kind_none {ps : List Byte} (start : Nat) (h : kindOf ps = none) :
    definitionOf ps start = none := by
  simp only [definitionOf, h]

/-- A definition comes from fields in their ranges and a kind. -/
theorem definitionOf_cases {ps : List Byte} {start : Nat} {d : WindowDef} (h : definitionOf ps start = some d) :
    CommonInRange ps ∧ ∃ kind, kindOf ps = some kind ∧ d = clampedDef ps start kind := by
  cases hkind : kindOf ps with
  | none => rw [definitionOf_of_kind_none start hkind] at h; cases h
  | some kind =>
    have hrange : CommonInRange ps := by
      by_contra hnot
      cases hbinding : bindingOf (field ps 13 1) with
      | none => simp [definitionOf, hkind, hbinding] at h
      | some binding =>
        simp only [definitionOf, hkind, hbinding] at h
        rw [if_neg] at h
        · cases h
        · rintro ⟨hx, hy, hw1, hw, hh1, hh⟩
          refine hnot ⟨hx, hy, hw1, hw, hh1, hh, ?_⟩
          by_contra hout
          rw [(bindingOf_eq_none_iff _).mpr hout] at hbinding
          cases hbinding
    rw [definitionOf_eq_some start hrange hkind] at h
    exact ⟨hrange, kind, rfl, (Option.some.inj h).symm⟩

/-! ### The kind part -/

/-- An image's fields are in their ranges, and it lies within image memory (R125, R135). -/
def ImageInRange (ps : List Byte) : Prop :=
  field ps 15 1 ≤ 127 ∧ 1 ≤ field ps 16 2 ∧ field ps 16 2 ≤ 3840 ∧ 1 ≤ field ps 18 2 ∧ field ps 18 2 ≤ 2160
    ∧ field ps 15 1 * 2048 + (field ps 16 2 + 1) / 2 * field ps 18 2 ≤ 262144

theorem kindOf_solid {ps : List Byte} (h : field ps 1 1 = 0) : kindOf ps = some .solid := by
  simp only [kindOf, h]

theorem kindOf_image {ps : List Byte} (h : field ps 1 1 = 1) (hr : ImageInRange ps) :
    kindOf ps = some (.image (field ps 15 1) (field ps 16 2) (field ps 18 2)) := by
  obtain ⟨hpage, hw1, hw, hh1, hh, hfits⟩ := hr
  simp only [kindOf, h]
  exact if_pos ⟨Nat.lt_succ_of_le hpage, hw1, hw, hh1, hh, decide_eq_true hfits⟩

theorem kindOf_image_none {ps : List Byte} (h : field ps 1 1 = 1) (hr : ¬ImageInRange ps) : kindOf ps = none := by
  simp only [kindOf, h]
  refine if_neg ?_
  rintro ⟨hpage, hw1, hw, hh1, hh, hfits⟩
  exact hr ⟨Nat.le_of_lt_succ hpage, hw1, hw, hh1, hh, of_decide_eq_true hfits⟩

theorem kindOf_figures {ps : List Byte} {sel : List Selector} (h : field ps 1 1 = 2) (hbase : field ps 15 1 ≤ 126)
    (hsel : selectorsOf ((ps.drop 18).take (field ps 17 1)) = some sel) :
    kindOf ps = some (.figures (field ps 15 1) (if field ps 16 1 = 0 then 256 else field ps 16 1) sel) := by
  simp only [kindOf, h, hsel]
  exact if_pos hbase

theorem kindOf_figures_none {ps : List Byte} (h : field ps 1 1 = 2)
    (hbad : 126 < field ps 15 1 ∨ ∃ code ∈ ((ps.drop 18).take (field ps 17 1)).map BitVec.toNat, 7 < code) :
    kindOf ps = none := by
  simp only [kindOf, h]
  cases hsel : selectorsOf ((ps.drop 18).take (field ps 17 1)) with
  | none => rfl
  | some sel =>
    refine if_neg fun hbase => ?_
    obtain hlarge | ⟨code, hcode, hlarge⟩ := hbad
    · omega
    · obtain ⟨b, hb, rfl⟩ := List.mem_map.mp hcode
      rw [selectorsOf_eq_none ⟨b, hb, hlarge⟩] at hsel
      cases hsel

theorem kindOf_of_larger {ps : List Byte} (h : 2 < field ps 1 1) : kindOf ps = none := by
  obtain ⟨n, hn⟩ := Nat.exists_eq_add_of_le' h
  simp only [kindOf, hn]

theorem kindOf_cases {ps : List Byte} {kind : WindowKind} (hk : kindOf ps = some kind) :
    kind = .solid ∨ (ImageInRange ps ∧ kind = .image (field ps 15 1) (field ps 16 2) (field ps 18 2))
      ∨ (field ps 15 1 ≤ 126
        ∧ ∃ sel, kind = .figures (field ps 15 1) (if field ps 16 1 = 0 then 256 else field ps 16 1) sel) := by
  obtain h | h | h | h : field ps 1 1 = 0 ∨ field ps 1 1 = 1 ∨ field ps 1 1 = 2 ∨ 2 < field ps 1 1 := by omega
  · rw [kindOf_solid h] at hk
    exact .inl (Option.some.inj hk).symm
  · by_cases hr : ImageInRange ps
    · rw [kindOf_image h hr] at hk
      exact .inr (.inl ⟨hr, (Option.some.inj hk).symm⟩)
    · rw [kindOf_image_none h hr] at hk
      cases hk
  · by_cases hbase : field ps 15 1 ≤ 126
    · cases hsel : selectorsOf ((ps.drop 18).take (field ps 17 1)) with
      | none => simp [kindOf, h, hsel] at hk
      | some sel =>
        rw [kindOf_figures h hbase hsel] at hk
        exact .inr (.inr ⟨hbase, sel, (Option.some.inj hk).symm⟩)
    · rw [kindOf_figures_none h (.inl (Nat.not_le.mp hbase))] at hk
      cases hk
  · rw [kindOf_of_larger h] at hk
    cases hk

theorem paletteField_le (ps : List Byte) (offset : Nat) :
    (paletteField ps offset).c0 ≤ 1023 ∧ (paletteField ps offset).c1 ≤ 1023 ∧ (paletteField ps offset).c2 ≤ 1023 :=
  ⟨Nat.min_le_right _ _, Nat.min_le_right _ _, Nat.min_le_right _ _⟩

/-- A palette entry's components as the layout packs them; the last takes ten bits and needs no clamp (R180). -/
theorem paletteField_eq (ps : List Byte) (offset : Nat) :
    paletteField ps offset = ⟨min (field ps offset 4 / 2 ^ 21) 1023, min (field ps offset 4 / 2 ^ 10 % 2 ^ 11) 1023,
      field ps offset 4 % 2 ^ 10⟩ := by
  have hlast : min (field ps offset 4 % 1024) 1023 = field ps offset 4 % 1024 := by omega
  simp only [paletteField, clampComponent, hlast]
  rfl

/-- Settles O29: the fields of the parameter bytes, by the window's kind. -/
theorem windowDefinitionsAreClamped : Obligations.WindowDefinitionsAreClamped := by
  intro ps start common inRange page width height imageInRange codes
  have hcommon (kind : WindowKind) : clampedDef ps start kind = common kind := by
    simp only [clampedDef, paletteField_eq]
    rfl
  refine ⟨fun hnot => ?_, fun hr h => ?_, fun hr h himage => ?_, fun h himage => ?_, fun hr h hbase hcodes => ?_,
    fun h hbad => ?_, fun h => ?_, fun d hd => ?_⟩
  · cases hd : definitionOf ps start with
    | none => rfl
    | some d => exact absurd (definitionOf_cases hd).1 hnot
  · rw [definitionOf_eq_some start hr (kindOf_solid h), hcommon]
  · rw [definitionOf_eq_some start hr (kindOf_image h himage), hcommon]
  · exact definitionOf_of_kind_none start (kindOf_image_none h himage)
  · obtain ⟨sel, hsel, hcode⟩ := exists_selectorsOf fun b hb => hcodes b.toNat (List.mem_map_of_mem hb)
    exact ⟨sel, hcode, by rw [definitionOf_eq_some start hr (kindOf_figures h hbase hsel), hcommon]⟩
  · exact definitionOf_of_kind_none start (kindOf_figures_none h hbad)
  · exact definitionOf_of_kind_none start (kindOf_of_larger h)
  · obtain ⟨⟨hx, hy, hw1, hw, hh1, hh, hbinding⟩, kind, hkind, rfl⟩ := definitionOf_cases hd
    refine ⟨hx, hy, hw1, hw, hh1, hh, Nat.min_le_right _ _, Nat.min_le_right _ _, Nat.le_max_left _ _, ?scale, ?binding,
      by simp [clampedDef], ?palette, ?image, ?figures⟩
    case scale => exact max_le (by omega) (Nat.min_le_right _ _)
    case binding =>
      intro slot hslot
      by_cases hnone : field ps 13 1 = 255
      · simp [clampedDef, hnone] at hslot
      · simp only [clampedDef, if_neg hnone, Option.some.injEq] at hslot
        omega
    case palette =>
      intro c hc
      obtain ⟨i, _, rfl⟩ := List.mem_map.mp hc
      exact paletteField_le ps _
    case image =>
      rintro p w h rfl
      obtain hk | ⟨hr, hk⟩ | ⟨_, sel, hk⟩ := kindOf_cases hkind <;> cases hk
      exact hr
    case figures =>
      rintro base refresh sel rfl
      have hbyte := field_one_lt ps 16
      obtain hk | ⟨_, hk⟩ | ⟨hbase, sel', hk⟩ := kindOf_cases hkind <;> cases hk
      split <;> omega

/-! ### WIN_READ -/

/-- A window's report from its definition, with the fields of its kind in place (R181). -/
theorem windowReport_of_some {w : Window} {d : WindowDef} (h : w.definition = some d) :
    windowReport w = be 1 w.state.code ++ be 1 d.kind.code ++ be 2 d.x ++ be 2 d.y ++ be 2 d.w ++ be 2 d.h ++ be 1 d.z
      ++ be 1 d.alpha ++ be 1 d.scale ++ be 1 (d.binding.getD 255) ++ be 1 d.palette.length
      ++ kindReport d.kind w.launches ++ be 2 w.dropped := by
  have hbinding : orNone d.binding = d.binding.getD 255 := by cases d.binding <;> rfl
  simp only [windowReport, h, hbinding]

theorem textReport_of_figures {w : Window} {d : WindowDef} {base refresh : Nat} {sel : List Selector}
    (h : w.definition = some d) (hk : d.kind = .figures base refresh sel) :
    textReport w = some (w.text.flatten.map (BitVec.ofNat 8)) := by
  rcases d with ⟨kind, _⟩
  subst hk
  simp only [textReport, h]
  rfl

theorem textReport_of_other {w : Window} {d : WindowDef} (h : w.definition = some d)
    (hk : ∀ base refresh sel, d.kind ≠ .figures base refresh sel) : textReport w = none := by
  rcases d with ⟨kind, _⟩
  cases kind with
  | figures base refresh sel => exact absurd rfl (hk base refresh sel)
  | solid | image _ _ _ => simp only [textReport, h]

/-- WIN_READ past its first two checks (R144). -/
theorem bodyWinRead_of_checked {ps : List Byte} {s : State} (hlen : ps.length = 2) (hwin : firstByte ps ≤ 15) :
    (2 < field ps 1 1 → bodyWinRead ps s = refuse .badValue ps s)
    ∧ (field ps 1 1 = 0 → bodyWinRead ps s = accept (windowReport (windowAt s (firstByte ps))) s)
    ∧ (field ps 1 1 = 1 → bodyWinRead ps s = reportOr (paletteReport (windowAt s (firstByte ps))) ps s)
    ∧ (field ps 1 1 = 2 → bodyWinRead ps s = reportOr (textReport (windowAt s (firstByte ps))) ps s) := by
  rw [bodyWinRead, if_neg (not_not.mpr hlen), if_neg (show ¬Config.windowRecords ≤ field ps 0 1 from Nat.not_lt.mpr hwin)]
  refine ⟨fun h => ?_, fun h => ?_, fun h => ?_, fun h => ?_⟩
  · obtain ⟨n, hn⟩ := Nat.exists_eq_add_of_le' h
    rw [hn]
    rfl
  all_goals rw [h]; rfl

/-- Settles O30: the refusals, and the report of each part and kind. -/
theorem winReadReportsAWindow : Obligations.WinReadReportsAWindow := by
  intro t s ps hs win w
  have hchecked (hlen : ps.length = 2) (hwin : win ≤ 15) := bodyWinRead_of_checked (s := tick t s) hlen hwin
  refine ⟨fun h => exec_eq_refused rfl hs (if_pos h), fun hlen hwin => ?_, fun hlen hwin hpart => ?_,
    fun hlen hwin hpart => ?_, fun hlen hwin hd hpart => ?_, fun d hlen hwin hd hpart => ?_,
    fun d hlen hwin hd hpart => ⟨fun base refresh sel hk => ?_, fun hk => ?_⟩, fun hd => ?_, fun d hd => ?_⟩
  · exact exec_eq_refused rfl hs ((if_neg (not_not.mpr hlen)).trans (if_pos hwin))
  · obtain ⟨hother, -, -, -⟩ := hchecked hlen hwin
    exact exec_eq_refused rfl hs (hother hpart)
  · obtain ⟨-, hfields, -, -⟩ := hchecked hlen hwin
    exact exec_eq_replied rfl hs (hfields hpart)
  · obtain ⟨-, -, hpalette, htext⟩ := hchecked hlen hwin
    have hw : (windowAt (tick t s) (firstByte ps)).definition = none := hd
    obtain hpart | hpart := hpart
    · exact exec_eq_refused rfl hs ((hpalette hpart).trans (by simp only [paletteReport, hw]; rfl))
    · exact exec_eq_refused rfl hs ((htext hpart).trans (by simp only [textReport, hw]; rfl))
  · obtain ⟨-, -, hpalette, -⟩ := hchecked hlen hwin
    have hw : (windowAt (tick t s) (firstByte ps)).definition = some d := hd
    exact exec_eq_replied rfl hs ((hpalette hpart).trans (by simp only [paletteReport, hw]; rfl))
  · obtain ⟨-, -, -, htext⟩ := hchecked hlen hwin
    exact exec_eq_replied rfl hs ((htext hpart).trans
      (by rw [show windowAt (tick t s) (firstByte ps) = w from rfl, textReport_of_figures hd hk]; rfl))
  · obtain ⟨-, -, -, htext⟩ := hchecked hlen hwin
    exact exec_eq_refused rfl hs ((htext hpart).trans
      (by rw [show windowAt (tick t s) (firstByte ps) = w from rfl, textReport_of_other hd hk]; rfl))
  · simp only [windowReport, hd]
  · intro part0
    rw [windowReport_of_some hd]
    refine ⟨fun hk => ?_, fun page width height hk => ?_, fun base refresh sel hk hrefresh => ?_⟩
    · rw [hk]; rfl
    · rw [hk]; rfl
    · have hinterval : refresh % 256 = if refresh = 256 then 0 else refresh := by split <;> omega
      rw [hk, kindReport, hinterval]
      rfl

end Sys2Proof.Proofs.WindowReports
end

section
/-! PROOFS. The requests of the panel port: PROFILE_SET and PROFILE_READ (O33, O34). -/

namespace Sys2Proof.Proofs.ProfileRequests

open Sys2Proof Sys2Proof.Machine Sys2Proof.Cert Sys2Proof.Proofs.Basics Sys2Proof.Proofs.Fields

/-- The profile a write form gives, before its checks (R107). -/
def givenProfile (ps : List Byte) : Profile :=
  { valid := true, wp := field ps 1 2, hp := field ps 3 2, lpMin := field ps 5 3, lpMax := field ps 8 3,
    nlead := field ps 11 1, nfpMin := field ps 12 1, tmax := field ps 13 3, fr := field ps 16 3,
    switchTime := field ps 19 3, redraw := field ps 22 1 == 1 }

/-- The fields of a write form are in their ranges (R106, R180). -/
def ProfileInRange (ps : List Byte) : Prop :=
  let p := givenProfile ps
  640 ≤ p.wp ∧ p.wp ≤ 3840 ∧ p.wp % 4 = 0 ∧ 360 ≤ p.hp ∧ p.hp ≤ 2160 ∧ 1600 ≤ p.lpMin
    ∧ p.lpMin ≤ p.lpMax ∧ p.lpMax ≤ 320000 ∧ 4 ≤ p.nlead ∧ 1 ≤ p.nfpMin ∧ 200000 ≤ p.tmax ∧ p.tmax ≤ 10000000
    ∧ p.switchTime ≤ 10000000 ∧ field ps 22 1 ≤ 1

theorem profileOf_eq_some {ps : List Byte} (h : ProfileInRange ps) : profileOf ps = some (givenProfile ps) := if_pos h

theorem profileOf_eq_none {ps : List Byte} (h : ¬ProfileInRange ps) : profileOf ps = none := if_neg h

theorem profileRelations_iff (p : Profile) :
    profileRelations p = true ↔ spacingOf p p.lpMax ≤ p.tmax ∧ spacingOf p p.lpMin ≤ p.fr ∧ p.fr ≤ p.tmax :=
  decide_eq_true_iff

theorem profileInUse_iff (i : Nat) (s : State) :
    profileInUse i s = true ↔ s.panel.current = some i ∧ s.pacer.state ≠ .standby ∧ s.pacer.state ≠ .rest :=
  decide_eq_true_iff

/-- A PROFILE_SET of the write form past the checks of its index (R107). -/
theorem bodyProfileSet_write {ps : List Byte} {s : State} (hlen : ps.length = 23) (hi : firstByte ps ≤ 3)
    (huse : ¬profileInUse (firstByte ps) s = true) :
    (¬ProfileInRange ps → bodyProfileSet ps s = refuse .badValue ps s)
    ∧ (ProfileInRange ps → bodyProfileSet ps s = if profileRelations (givenProfile ps) = true then
        accept (be 1 (validCode true)) (setProfile (firstByte ps) (givenProfile ps) s)
      else refuse .badValue ps s) := by
  rw [bodyProfileSet, if_neg (by omega), if_neg (show ¬Config.profileCount ≤ field ps 0 1 from Nat.not_lt.mpr hi),
    if_neg (show ¬profileInUse (field ps 0 1) s = true from huse), if_neg (by omega)]
  exact ⟨fun h => by rw [profileOf_eq_none h], fun h => by rw [profileOf_eq_some h]; rfl⟩

/-- Settles O33: the checks in the order of the body; the two relations are those of R106. -/
theorem profileSetWritesAProfile : Obligations.ProfileSetWritesAProfile := by
  intro t s ps hs i inUse p ranges relations written
  have hrelations : profileRelations p = true ↔ relations := profileRelations_iff p
  refine ⟨fun h1 h23 => exec_eq_refused rfl hs (if_pos ⟨h1, h23⟩), fun hlen hi => ?_, fun hlen hi huse => ?_,
    fun hlen hi huse => ?_, fun hlen hi huse hbad => ?_, fun hlen hi huse hr hrel => ?_⟩
  · exact exec_eq_refused rfl hs ((if_neg (by omega)).trans (if_pos hi))
  · exact exec_eq_refused rfl hs ((if_neg (by omega)).trans ((if_neg (Nat.not_lt.mpr hi)).trans
      (if_pos ((profileInUse_iff i (tick t s)).mpr huse))))
  · exact exec_eq_replied rfl hs ((if_neg (by omega)).trans ((if_neg (Nat.not_lt.mpr hi)).trans
      ((if_neg (mt (profileInUse_iff i (tick t s)).mp huse)).trans (if_pos hlen))))
  · obtain ⟨hout, hin⟩ := bodyProfileSet_write hlen hi (mt (profileInUse_iff i (tick t s)).mp huse)
    by_cases hr : ranges
    · have hrel : ¬profileRelations p = true := fun h => hbad ⟨hr, hrelations.mp h⟩
      exact exec_eq_refused rfl hs ((hin hr).trans (if_neg hrel))
    · exact exec_eq_refused rfl hs (hout hr)
  · obtain ⟨-, hin⟩ := bodyProfileSet_write hlen hi (mt (profileInUse_iff i (tick t s)).mp huse)
    exact exec_eq_replied rfl hs ((hin hr).trans (if_pos (hrelations.mpr hrel)))

theorem profileReport_length (i : Nat) (s : State) : (profileReport i s).length = 45 := by
  simp [profileReport, profileBytes, colourBytes]

/-- Settles O34: the report has the layout of R181, part by part. -/
theorem profileReadReportsTheProfile : Obligations.ProfileReadReportsTheProfile := by
  intro t s ps hs i p data
  have hdata : data = profileReport i (tick t s) := by
    simp only [profileReport, profileBytes, colourBytes, ← List.append_assoc]
    iterate 3 refine append_congr ?_ rfl
    refine append_congr (append_congr (append_congr (append_congr (append_congr ?_ ?current) ?index) rfl) rfl) ?left
    iterate 2 refine append_congr ?_ rfl
    refine append_congr ?_ (be_boolCode _).symm
    iterate 9 refine append_congr ?_ rfl
    · exact (be_boolCode _).symm
    case current => simp only [be_boolCode, decide_eq_true_eq]; rfl
    case index => cases hcurrent : s.panel.current <;> simp [hcurrent, orNone]
    case left => cases hphase : s.panel.phase <;> simp [hphase, switchLeft]
  refine ⟨fun h => exec_eq_refused rfl hs (if_pos h), fun hlen hi => ?_, fun hlen hi => ?_,
    hdata ▸ profileReport_length _ _⟩
  · exact exec_eq_refused rfl hs ((if_neg (not_not.mpr hlen)).trans (if_pos hi))
  · rw [hdata]
    exact exec_eq_replied rfl hs ((if_neg (not_not.mpr hlen)).trans (if_neg (Nat.not_lt.mpr hi)))

end Sys2Proof.Proofs.ProfileRequests
end

section
/-! PROOFS. The section chain of a CAT_STORE: how it is read, and its fields (O24). -/

namespace Sys2Proof.Proofs.SectionChain

open Sys2Proof Sys2Proof.Machine Sys2Proof.Cert Sys2Proof.Proofs.Basics Sys2Proof.Proofs.Fields
open Sys2Proof.Proofs.StagedRequests

/-! ### One section -/

/-- What has been read of a chain once these sections have been. -/
def chainRead (l : List Section) : Chain :=
  { tags := (l.map Prod.fst).reverse
    key := (bodyOf 0x01#8 l).bind keyOf
    present := (bodyOf 0x02#8 l).bind presentOf
    pacing := (bodyOf 0x03#8 l).bind pacingOf
    label := ((bodyOf 0x04#8 l).map labelOf).getD []
    skipped := (l.filter fun x => decide (4 < x.1.toNat)).length }

theorem chainRead_nil : chainRead [] = .start := rfl

theorem bodyOf_append_singleton (tag : Byte) (l : List Section) (x : Section) :
    bodyOf tag (l ++ [x]) = (bodyOf tag l).or (if x.1 = tag then some x.2 else none) := by
  simp only [bodyOf, List.find?_append, List.find?_singleton, beq_iff_eq]
  cases l.find? fun x => x.1 == tag <;> by_cases h : x.1 = tag <;> simp [h]

theorem bodyOf_eq_none {tag : Byte} {l : List Section} (h : tag ∉ l.map Prod.fst) : bodyOf tag l = none := by
  simp only [bodyOf, Option.map_eq_none_iff, List.find?_eq_none, beq_iff_eq]
  exact fun x hx heq => h (heq ▸ List.mem_map_of_mem hx)

/-- A tag is one of the four known ones, END, or another (R19). -/
theorem tag_cases (tag : Byte) : tag = 0x01#8 ∨ tag = 0x02#8 ∨ tag = 0x03#8 ∨ tag = 0x04#8
    ∨ tag = 0x00#8 ∨ 4 < tag.toNat := by
  bv_omega

theorem badBodyLength_of_other {tag : Byte} (h : 4 < tag.toNat) (n : Nat) : badBodyLength tag n = false := by
  obtain ⟨m, hm⟩ := Nat.exists_eq_add_of_le' h
  simp only [badBodyLength, hm]

theorem read_of_other {tag : Byte} (h : 4 < tag.toNat) (body : List Byte) (c : Chain) :
    c.read tag body = some { c with skipped := c.skipped + 1 } := by
  obtain ⟨m, hm⟩ := Nat.exists_eq_add_of_le' h
  simp only [Chain.read, hm]

/-- An unknown tag is none of the four known ones. -/
theorem ne_of_other {tag : Byte} (h : 4 < tag.toNat) :
    tag ≠ 0x01#8 ∧ tag ≠ 0x02#8 ∧ tag ≠ 0x03#8 ∧ tag ≠ 0x04#8 := by
  refine ⟨?_, ?_, ?_, ?_⟩ <;> (rintro rfl; simp at h)

theorem badBodyLength_eq_false_iff {tag : Byte} (htag : tag ≠ 0x00#8) (n : Nat) :
    badBodyLength tag n = false ↔ LengthRight tag n := by
  obtain rfl | rfl | rfl | rfl | h | h := tag_cases tag
  · simp [LengthRight, badBodyLength]
  · simp [LengthRight, badBodyLength]
  · simp [LengthRight, badBodyLength]
  · simp [LengthRight, badBodyLength]
  · exact absurd h htag
  · simp [LengthRight, badBodyLength_of_other h, ne_of_other h]

theorem read_eq_none_iff {tag : Byte} (htag : tag ≠ 0x00#8) (body : List Byte) (c : Chain) :
    c.read tag body = none ↔ ¬FieldsRight tag body := by
  obtain rfl | rfl | rfl | rfl | h | h := tag_cases tag
  · simp [FieldsRight, Chain.read]
  · simp [FieldsRight, Chain.read]
  · simp [FieldsRight, Chain.read]
  · simp [FieldsRight, Chain.read]
  · exact absurd h htag
  · simp [FieldsRight, read_of_other h, ne_of_other h]

/-- A right section after right ones is read into the chain. -/
theorem read_chainRead {l : List Section} {tag : Byte} {body : List Byte} (htag : tag ≠ 0x00#8)
    (hnew : tag ∉ l.map Prod.fst) (hfields : FieldsRight tag body) :
    ∃ c, (chainRead l).read tag body = some c
      ∧ { c with tags := tag :: (chainRead l).tags } = chainRead (l ++ [(tag, body)]) := by
  have hnone := bodyOf_eq_none hnew
  obtain ⟨hkey, hpresent, hpacing⟩ := hfields
  obtain rfl | rfl | rfl | rfl | h | h := tag_cases tag
  · obtain ⟨k, hk⟩ := Option.ne_none_iff_exists'.mp (hkey rfl)
    refine ⟨{ chainRead l with key := some k }, by simp [Chain.read, hk], ?_⟩
    simp [chainRead, bodyOf_append_singleton, hnone, hk]
  · obtain ⟨k, hk⟩ := Option.ne_none_iff_exists'.mp (hpresent rfl)
    refine ⟨{ chainRead l with present := some k }, by simp [Chain.read, hk], ?_⟩
    simp [chainRead, bodyOf_append_singleton, hnone, hk]
  · obtain ⟨k, hk⟩ := Option.ne_none_iff_exists'.mp (hpacing rfl)
    refine ⟨{ chainRead l with pacing := some k }, by simp [Chain.read, hk], ?_⟩
    simp [chainRead, bodyOf_append_singleton, hnone, hk]
  · refine ⟨{ chainRead l with label := labelOf body }, rfl, ?_⟩
    simp [chainRead, bodyOf_append_singleton, hnone]
  · exact absurd h htag
  · refine ⟨_, read_of_other h body _, ?_⟩
    obtain ⟨h1, h2, h3, h4⟩ := ne_of_other h
    simp [chainRead, bodyOf_append_singleton, h1, h2, h3, h4, h]

theorem mem_tags_chainRead (l : List Section) (tag : Byte) :
    (chainRead l).tags.contains tag = true ↔ tag ∈ l.map Prod.fst := by
  simp [chainRead]

/-! ### The sections of a chain -/

theorem section_eq_ok {l : List Section} {tag : Byte} {body : List Byte} (htag : tag ≠ 0x00#8)
    (hlength : LengthRight tag body.length) (hnew : tag ∉ l.map Prod.fst) (hfields : FieldsRight tag body) :
    (chainRead l).section_ tag body = .ok (chainRead (l ++ [(tag, body)])) := by
  obtain ⟨c, hc, hread⟩ := read_chainRead htag hnew hfields
  have hcontains : ¬(chainRead l).tags.contains tag = true := mt (mem_tags_chainRead l tag).mp hnew
  rw [Chain.section_, (badBodyLength_eq_false_iff htag _).mpr hlength, if_neg Bool.false_ne_true, if_neg hcontains, hc,
    ← hread]

theorem section_of_length {c : Chain} {tag : Byte} {body : List Byte} (htag : tag ≠ 0x00#8)
    (h : ¬LengthRight tag body.length) : c.section_ tag body = .error .badLength := by
  have hbad : badBodyLength tag body.length = true := by
    rwa [← badBodyLength_eq_false_iff htag, Bool.not_eq_false] at h
  rw [Chain.section_, if_pos hbad]

theorem section_of_value {l : List Section} {tag : Byte} {body : List Byte} (htag : tag ≠ 0x00#8)
    (hlength : LengthRight tag body.length) (h : tag ∈ l.map Prod.fst ∨ ¬FieldsRight tag body) :
    (chainRead l).section_ tag body = .error .badValue := by
  rw [Chain.section_, (badBodyLength_eq_false_iff htag _).mpr hlength, if_neg Bool.false_ne_true]
  by_cases hmem : tag ∈ l.map Prod.fst
  · rw [if_pos ((mem_tags_chainRead l tag).mpr hmem)]
  · rw [if_neg (mt (mem_tags_chainRead l tag).mp hmem), (read_eq_none_iff htag body _).mpr (h.resolve_left hmem)]

/-- A section whose body lies within the bytes is read, and the reading goes on after it. -/
theorem readChain_of_ok {n : Nat} {tag : Byte} {body rest : List Byte} {c c' : Chain} (htag : tag ≠ 0x00#8)
    (hbody : body.length ≤ 255) (h : c.section_ tag body = .ok c') :
    readChain (n + 1) (tag :: BitVec.ofNat 8 body.length :: (body ++ rest)) c = readChain n rest c' := by
  have hlength : (BitVec.ofNat 8 body.length).toNat = body.length := by
    rw [BitVec.toNat_ofNat]
    omega
  have hshort : ¬(body ++ rest).length < body.length := by simp
  simp only [readChain, if_neg htag, hlength, List.take_left, List.drop_left, if_neg hshort, h]

/-- A section that is refused ends the reading. -/
theorem readChain_of_error {n : Nat} {tag : Byte} {body rest : List Byte} {c : Chain} {e : Status} (htag : tag ≠ 0x00#8)
    (hbody : body.length ≤ 255) (h : c.section_ tag body = .error e) :
    readChain (n + 1) (tag :: BitVec.ofNat 8 body.length :: (body ++ rest)) c = .error e := by
  have hlength : (BitVec.ofNat 8 body.length).toNat = body.length := by
    rw [BitVec.toNat_ofNat]
    omega
  have hshort : ¬(body ++ rest).length < body.length := by simp
  simp only [readChain, if_neg htag, hlength, List.take_left, if_neg hshort, h]

theorem sectionBytes_cons (x : Section) (l : List Section) (rest : List Byte) :
    sectionBytes (x :: l) ++ rest = x.1 :: BitVec.ofNat 8 x.2.length :: (x.2 ++ (sectionBytes l ++ rest)) := by
  simp [sectionBytes]

theorem length_le_sectionBytes (l : List Section) : l.length ≤ (sectionBytes l).length := by
  induction l with
  | nil => simp
  | cons x l ih =>
    have h := congrArg List.length (sectionBytes_cons x l [])
    simp only [List.append_nil, List.length_cons, List.length_append] at h
    rw [h, List.length_cons]
    omega

/-- Right sections after right ones are read one by one. -/
theorem readChain_sections (n : Nat) (rest : List Byte) (l before : List Section) (h : SectionsRight (before ++ l)) :
    readChain (n + l.length) (sectionBytes l ++ rest) (chainRead before) = readChain n rest (chainRead (before ++ l)) := by
  induction l generalizing before with
  | nil => simp [sectionBytes]
  | cons x l ih =>
    have hright := h
    obtain ⟨hall, hnodup⟩ := h
    obtain ⟨htag, hbody, hlength, hfields⟩ := hall x (by simp)
    have hnew : x.1 ∉ before.map Prod.fst := by
      rw [List.map_append, List.nodup_append] at hnodup
      exact fun hmem => hnodup.2.2 _ hmem x.1 (by simp) rfl
    rw [sectionBytes_cons, List.length_cons, ← Nat.add_assoc,
      readChain_of_ok htag hbody (section_eq_ok htag hlength hnew hfields)]
    have hsplit : before ++ x :: l = before ++ [x] ++ l := by simp
    rw [hsplit] at hright ⊢
    exact ih (before ++ [x]) hright

/-- A chain that begins with right sections: what is left to read, with fuel for one section at least. -/
theorem exists_chainOf (rest : List Byte) {l : List Section} (h : SectionsRight l) :
    ∃ n, chainOf (sectionBytes l ++ rest) = readChain (n + 1) rest (chainRead l) := by
  have hlength := length_le_sectionBytes l
  refine ⟨(sectionBytes l).length - l.length + rest.length, ?_⟩
  rw [chainOf, ← chainRead_nil, List.length_append,
    show (sectionBytes l).length + rest.length + 1 = (sectionBytes l).length - l.length + rest.length + 1 + l.length by
      omega]
  exact readChain_sections _ rest l [] h

/-- What the chain holds when KEY and PRESENT have been read and END is reached (R22). -/
theorem close_chainRead {l : List Section} {kb pb : List Byte} {k : Key} {p : Present} {pacing : Pacing}
    (hkb : bodyOf 0x01#8 l = some kb) (hk : keyOf kb = some k) (hpb : bodyOf 0x02#8 l = some pb)
    (hp : presentOf pb = some p)
    (hpacing : (bodyOf 0x03#8 l).elim (pacing = { given := false, redraw := .predict, ceiling := 16777215 })
      (fun b => pacingOf b = some pacing)) :
    (chainRead l).close = .ok
      ({ key := k, present := p, pacing := pacing
         label := ((bodyOf 0x04#8 l).map fun b => (b.map glyphOf).take 16).getD [] },
       (l.filter fun x => decide (4 < x.1.toNat)).length) := by
  have hread : (chainRead l).pacing.getD .default = pacing := by
    cases hb : bodyOf 0x03#8 l with
    | none => rw [hb] at hpacing; simpa [chainRead, hb, Pacing.default] using hpacing.symm
    | some b => rw [hb] at hpacing; simp [chainRead, hb, show pacingOf b = some pacing from hpacing]
  have hkey : (chainRead l).key = some k := by simp [chainRead, hkb, hk]
  have hpresent : (chainRead l).present = some p := by simp [chainRead, hpb, hp]
  simp only [Chain.close, hkey, hpresent, hread]
  rfl

theorem close_of_missing {l : List Section} (h : bodyOf 0x01#8 l = none ∨ bodyOf 0x02#8 l = none) :
    (chainRead l).close = .error .badValue := by
  obtain h | h := h
  · have hkey : (chainRead l).key = none := by simp [chainRead, h]
    simp only [Chain.close, hkey]
  · have hpresent : (chainRead l).present = none := by simp [chainRead, h]
    simp only [Chain.close, hpresent]
    cases (chainRead l).key <;> rfl

theorem chainRules : ChainRules := by
  intro l hl good
  have hend : chainOf (good ++ [0x00#8]) = (chainRead l).close := by
    obtain ⟨n, hn⟩ := exists_chainOf [0x00#8] hl
    rw [hn]
    rfl
  refine ⟨fun kb pb k p hkb hk hpb hp pacing hpacing => ?_, fun h => ?_, ?_, fun b rest => ?_, fun tag htag => ⟨?_,
    fun length rest hshort => ?_, fun body rest hbody => ?_⟩⟩
  · rw [hend, close_chainRead hkb hk hpb hp hpacing]
  · rw [hend, close_of_missing h]
  · obtain ⟨n, hn⟩ := exists_chainOf [] hl
    rw [List.append_nil] at hn
    rw [hn]
    rfl
  · obtain ⟨n, hn⟩ := exists_chainOf (0x00#8 :: b :: rest) hl
    rw [hn, readChain, if_pos rfl, if_neg (List.cons_ne_nil b rest)]
  · obtain ⟨n, hn⟩ := exists_chainOf [tag] hl
    rw [hn, readChain, if_neg htag]
  · obtain ⟨n, hn⟩ := exists_chainOf (tag :: length :: rest) hl
    rw [hn, readChain, if_neg htag]
    exact if_pos hshort
  · intro read
    obtain ⟨n, hn⟩ := exists_chainOf (sectionBytes [(tag, body)] ++ rest) hl
    have hread : read = readChain (n + 1) (tag :: BitVec.ofNat 8 body.length :: (body ++ rest)) (chainRead l) := by
      rw [← List.append_assoc] at hn
      rw [show read = _ from hn, sectionBytes_cons]
      rfl
    refine ⟨fun h => ?_, fun hlength h => ?_⟩
    · rw [hread, readChain_of_error htag hbody (section_of_length htag h)]
    · rw [hread, readChain_of_error htag hbody (section_of_value htag hlength h)]

/-! ### The fields of the sections -/

theorem anySize_eq_some {lo hi v : Nat} (h : v = 0 ∨ (lo ≤ v ∧ v ≤ hi)) :
    anySize lo hi v = some (if v = 0 then none else some v) := by
  unfold anySize
  by_cases h0 : v = 0
  · simp [h0]
  · rw [if_neg h0, if_pos (h.resolve_left h0), if_neg h0]

theorem anySize_eq_none {lo hi v : Nat} (h : ¬(v = 0 ∨ (lo ≤ v ∧ v ≤ hi))) : anySize lo hi v = none := by
  rw [anySize, if_neg fun h0 => h (.inl h0), if_neg fun hr => h (.inr hr)]

/-- A line window's two bounds are both 0 or in their range (R20). -/
def WindowInRange (lo hi : Nat) : Prop := (lo = 0 ∧ hi = 0) ∨ (1600 ≤ lo ∧ lo ≤ hi ∧ hi ≤ 320000)

theorem windowOf_eq_some {lo hi : Nat} (h : WindowInRange lo hi) :
    windowOf lo hi = some (if lo = 0 then none else some (lo, hi)) := by
  obtain h | h := h
  · rw [windowOf, if_pos h, if_pos h.1]
  · rw [windowOf, if_neg (by omega), if_pos h, if_neg (by omega)]

theorem windowOf_eq_none {lo hi : Nat} (h : ¬WindowInRange lo hi) : windowOf lo hi = none := by
  rw [windowOf, if_neg fun h0 => h (.inl h0), if_neg fun hr => h (.inr hr)]

/-- The two-bit codes of a key: 0 for ANY, 1, 2, and 3 for none (R20, R178). -/
theorem formatOf_mod_four {v : Nat} (h : v < 3) :
    formatOf v = some (if v = 0 then none else if v = 1 then some .full else some .half) := by
  interval_cases v <;> rfl

theorem depthOf_mod_four {v : Nat} (h : v < 3) :
    depthOf v = some (if v = 0 then none else if v = 1 then some .d8 else some .d10) := by
  interval_cases v <;> rfl

theorem vrrOf_mod_four {v : Nat} (h : v < 3) : vrrOf v = some (if v = 0 then none else some (decide (v = 2))) := by
  interval_cases v <;> rfl

/-- A KEY body's fields are in their ranges (R20, R179). -/
def KeyInRange (b : List Byte) : Prop :=
  (field b 0 2 = 0 ∨ (64 ≤ field b 0 2 ∧ field b 0 2 ≤ 3840)) ∧ (field b 2 2 = 0 ∨ (64 ≤ field b 2 2 ∧ field b 2 2 ≤ 2160))
    ∧ WindowInRange (field b 4 3) (field b 7 3)
    ∧ field b 10 1 % 4 ≠ 3 ∧ field b 10 1 / 4 % 4 ≠ 3 ∧ field b 10 1 / 16 % 4 ≠ 3 ∧ field b 10 1 < 64

theorem keyOf_eq_some {b : List Byte} (h : KeyInRange b) :
    keyOf b = some
      { width := if field b 0 2 = 0 then none else some (field b 0 2)
        height := if field b 2 2 = 0 then none else some (field b 2 2)
        window := if field b 4 3 = 0 then none else some (field b 4 3, field b 7 3)
        format := if field b 10 1 % 4 = 0 then none else if field b 10 1 % 4 = 1 then some .full else some .half
        depth := if field b 10 1 / 4 % 4 = 0 then none else if field b 10 1 / 4 % 4 = 1 then some .d8 else some .d10
        vrr := if field b 10 1 / 16 % 4 = 0 then none else some (decide (field b 10 1 / 16 % 4 = 2)) } := by
  obtain ⟨hwidth, hheight, hwindow, hformat, hdepth, hvrr, hunused⟩ := h
  simp only [keyOf, anySize_eq_some hwidth, anySize_eq_some hheight, windowOf_eq_some hwindow,
    formatOf_mod_four (v := field b 10 1 % 4) (by omega), depthOf_mod_four (v := field b 10 1 / 4 % 4) (by omega),
    vrrOf_mod_four (v := field b 10 1 / 16 % 4) (by omega)]
  exact if_pos (by omega)

theorem keyOf_eq_none {b : List Byte} (h : ¬KeyInRange b) : keyOf b = none := by
  rw [keyOf]
  split
  · next hwidth hheight hwindow hformat hdepth hvrr =>
    refine if_neg fun hunused => h ⟨?_, ?_, ?_, fun h3 => ?_, fun h3 => ?_, fun h3 => ?_, by omega⟩
    · by_contra hout
      rw [anySize_eq_none hout] at hwidth
      cases hwidth
    · by_contra hout
      rw [anySize_eq_none hout] at hheight
      cases hheight
    · by_contra hout
      rw [windowOf_eq_none hout] at hwindow
      cases hwindow
    · rw [h3] at hformat
      cases hformat
    · rw [h3] at hdepth
      cases hdepth
    · rw [h3] at hvrr
      cases hvrr
  · rfl

theorem sizeModeOf_eq_none {v : Nat} (h : 3 < v) : sizeModeOf v = none := by
  obtain ⟨n, rfl⟩ := Nat.exists_eq_add_of_le' h
  rfl

/-- An EXPLICIT record's size and offset are in their ranges (R21). -/
def Placed (b : List Byte) : Prop :=
  1 ≤ field b 1 2 ∧ field b 1 2 ≤ 3840 ∧ 1 ≤ field b 3 2 ∧ field b 3 2 ≤ 2160 ∧ field b 5 2 ≤ 3839 ∧ field b 7 2 ≤ 2159

theorem presentOf_of_large {b : List Byte} (h : 3 < field b 0 1 % 16 ∨ 3 < field b 0 1 / 16) : presentOf b = none := by
  by_cases hindex : 3 < field b 0 1 % 16
  · exact if_pos hindex
  · simp only [presentOf, sizeModeOf_eq_none (h.resolve_left hindex), ite_self]

theorem presentOf_of_not_placed {b : List Byte} (hmode : field b 0 1 / 16 = 0) (h : ¬Placed b) : presentOf b = none := by
  by_cases hindex : 3 < field b 0 1 % 16
  · exact if_pos hindex
  · refine (if_neg hindex).trans ?_
    simp only [hmode, sizeModeOf]
    exact if_neg h

theorem presentOf_explicit {b : List Byte} (hindex : field b 0 1 % 16 ≤ 3) (hmode : field b 0 1 / 16 = 0) (h : Placed b) :
    presentOf b = some
      { profile := field b 0 1 % 16, mode := .explicit, wout := field b 1 2, hout := field b 3 2, xoff := field b 5 2
        yoff := field b 7 2, guard := min 15 (field b 9 1), fill := colourField b 10 } := by
  refine (if_neg (Nat.not_lt.mpr hindex)).trans ?_
  simp only [hmode, sizeModeOf]
  exact if_pos h

theorem presentOf_sized {b : List Byte} (hindex : field b 0 1 % 16 ≤ 3) (h1 : 1 ≤ field b 0 1 / 16)
    (h3 : field b 0 1 / 16 ≤ 3) :
    presentOf b = some
      { profile := field b 0 1 % 16
        mode := if field b 0 1 / 16 = 1 then .native else if field b 0 1 / 16 = 2 then .fit else .integer
        wout := 0, hout := 0, xoff := 0, yoff := 0, guard := min 15 (field b 9 1), fill := colourField b 10 } := by
  refine (if_neg (Nat.not_lt.mpr hindex)).trans ?_
  obtain h | h | h : field b 0 1 / 16 = 1 ∨ field b 0 1 / 16 = 2 ∨ field b 0 1 / 16 = 3 := by omega
  all_goals rw [h]; rfl

theorem pacingOf_eq_none {b : List Byte} (h : 1 < field b 0 1) : pacingOf b = none := by
  obtain ⟨n, hn⟩ := Nat.exists_eq_add_of_le' h
  simp only [pacingOf, hn]

theorem sectionRules : SectionRules := by
  intro b packed keyInRange
  refine ⟨keyOf_eq_some, keyOf_eq_none, ?_, fun h => ?_, fun h => ?_, pacingOf_eq_none⟩
  · intro index mode guard fill placed
    exact ⟨presentOf_of_large, presentOf_explicit, presentOf_of_not_placed, presentOf_sized⟩
  · simp only [pacingOf, h]
  · simp only [pacingOf, h]

/-- A byte that a character code does not name is a space (R22). -/
theorem glyphOf_of_not_char {c : Byte} (h : ∀ g < 40, charOf g ≠ c) : glyphOf c = 36 := by
  have hcode (g : Nat) (hg : g < 40) (hc : (charOf g).toNat = c.toNat) : False := h g hg (BitVec.eq_of_toNat_eq hc)
  have hdigit : ¬(0x30 ≤ c.toNat ∧ c.toNat ≤ 0x39) := fun hr =>
    hcode (c.toNat - 0x30) (by omega) (by rw [charOf, if_pos (by omega), byte, BitVec.toNat_ofNat]; omega)
  have hletter : ¬(0x41 ≤ c.toNat ∧ c.toNat ≤ 0x5A) := fun hr =>
    hcode (c.toNat - 0x41 + 10) (by omega)
      (by rw [charOf, if_neg (by omega), if_pos (by omega), byte, BitVec.toNat_ofNat]; omega)
  have hstop : ¬c.toNat = 0x2E := fun hc => hcode 37 (by omega) hc.symm
  have hhyphen : ¬c.toNat = 0x2D := fun hc => hcode 38 (by omega) hc.symm
  have hcolon : ¬c.toNat = 0x3A := fun hc => hcode 39 (by omega) hc.symm
  rw [glyphOf, if_neg hdigit, if_neg hletter, if_neg hstop, if_neg hhyphen, if_neg hcolon]
  rfl

theorem characterRules : CharacterRules := ⟨by decide, by decide, fun _ => glyphOf_of_not_char⟩

/-! ### CAT_STORE and CAT_RETIRE -/

theorem section_error {c : Chain} {tag : Byte} {body : List Byte} {e : Status} (h : c.section_ tag body = .error e) :
    e = .badLength ∨ e = .badValue := by
  unfold Chain.section_ at h
  split at h
  · exact .inl (Except.error.inj h).symm
  · split at h
    · exact .inr (Except.error.inj h).symm
    · split at h
      · cases h
      · exact .inr (Except.error.inj h).symm

theorem close_error {c : Chain} {e : Status} (h : c.close = .error e) : e = .badValue := by
  unfold Chain.close at h
  split at h
  · cases h
  · exact (Except.error.inj h).symm

/-- A chain is refused with one of two codes (R19). -/
theorem readChain_error {n : Nat} {bytes : List Byte} {c : Chain} {e : Status} (h : readChain n bytes c = .error e) :
    e = .badLength ∨ e = .badValue := by
  induction n generalizing bytes c with
  | zero => exact .inl (Except.error.inj h).symm
  | succ n ih =>
    match bytes, h with
    | [], h => exact .inl (Except.error.inj h).symm
    | tag :: rest, h =>
      simp only [readChain] at h
      split at h
      · split at h
        · exact .inr (close_error h)
        · exact .inl (Except.error.inj h).symm
      · split at h
        · exact .inl (Except.error.inj h).symm
        · split at h
          · exact .inl (Except.error.inj h).symm
          · split at h
            · next hsection => exact Except.error.inj h ▸ section_error hsection
            · exact ih h

/-- Settles O24: the requests' checks in the order of their bodies, and the rules of the chain. -/
theorem catStoreAndRetireStageEdits : Obligations.CatStoreAndRetireStageEdits := by
  refine ⟨?_, chainRules, sectionRules, characterRules⟩
  intro t s ps slot
  refine ⟨fun hs => ⟨fun h => ?_, fun h hslot => ?_, fun h hslot e he => ⟨readChain_error he, ?_⟩,
    fun h hslot c k hc => ⟨fun hlock => ?_, fun hlock => ?_⟩⟩, fun hs => ⟨fun h => exec_eq_refused rfl hs (if_pos h),
    fun h hslot => ?_, fun h hslot hlock => ?_, fun h hslot hlock => ?_⟩⟩
  · exact exec_eq_refused rfl hs (if_pos (List.length_eq_zero_iff.mpr h))
  · exact exec_eq_refused rfl hs ((if_neg (mt List.length_eq_zero_iff.mp h)).trans (if_pos hslot))
  · refine exec_eq_refused rfl hs ((if_neg (mt List.length_eq_zero_iff.mp h)).trans
      ((if_neg (Nat.not_lt.mpr hslot)).trans ?_))
    simp only [he]
  · refine exec_eq_refused rfl hs ((if_neg (mt List.length_eq_zero_iff.mp h)).trans
      ((if_neg (Nat.not_lt.mpr hslot)).trans ?_))
    simp only [hc]
    exact if_pos hlock
  · refine exec_eq_staged rfl hs ((if_neg (mt List.length_eq_zero_iff.mp h)).trans
      ((if_neg (Nat.not_lt.mpr hslot)).trans ?_))
    simp only [hc]
    exact if_neg (ne_true_of_eq_false hlock)
  · exact exec_eq_refused rfl hs ((if_neg (not_not.mpr h)).trans (if_pos hslot))
  · exact exec_eq_refused rfl hs ((if_neg (not_not.mpr h)).trans ((if_neg (Nat.not_lt.mpr hslot)).trans
      (if_pos hlock)))
  · exact exec_eq_staged rfl hs ((if_neg (not_not.mpr h)).trans ((if_neg (Nat.not_lt.mpr hslot)).trans
      (if_neg (ne_true_of_eq_false hlock))))

end Sys2Proof.Proofs.SectionChain
end

section
/-! PROOFS. Transactions on the wires: the bits gathered and sent (for O6 to O10). -/

namespace Sys2Proof.Proofs.Transactions

open Sys2Proof Sys2Proof.Machine Sys2Proof.Cert Sys2Proof.Proofs.PortAndGroup

/-! ### The rows and the clock -/

/-- The row does not decide what an instant of a transaction does (log 36). -/
theorem exec_wireRow {t : Nat} {ev : WireEvent} {c : Instr} (h : c ∈ wireRows t ev) (s : State) :
    exec c s = .next (wireEvent ev (tick t s)) := by
  simp only [wireRows, List.mem_cons, List.not_mem_nil, or_false] at h
  obtain rfl | rfl | rfl | rfl := h <;> rfl

theorem tick_of_le {t : Nat} {s : State} (h : t ≤ s.now) : tick t s = s := by
  have hnow : max s.now t = s.now := Nat.max_eq_left h
  exact congrArg (fun n => { s with now := n }) hnow

/-! ### The bytes sent -/

theorem byteBits_length (b : Byte) : (byteBits b).length = 8 := rfl

theorem getElem?_byteBits (b : Byte) {i : Nat} (h : i < 8) : (byteBits b)[i]? = some (b.getLsbD (7 - i)) := by
  interval_cases i <;> rfl

/-- Bit i of byte k among the bits of bytes. -/
theorem getElem?_flatMap_byteBits (l : List Byte) (k : Nat) {i : Nat} (h : i < 8) :
    (l.flatMap byteBits)[8 * k + i]? = l[k]?.map fun b => b.getLsbD (7 - i) := by
  induction l generalizing k with
  | nil => simp
  | cons b l ih =>
    cases k with
    | zero =>
      rw [List.flatMap_cons, List.getElem?_append_left (by simp [byteBits_length]; omega)]
      simp [getElem?_byteBits b h]
    | succ k =>
      rw [List.flatMap_cons, List.getElem?_append_right (by simp [byteBits_length]; omega), byteBits_length,
        show 8 * (k + 1) + i - 8 = 8 * k + i by omega, ih, List.getElem?_cons_succ]

/-- Byte k of bytes followed by as many of one value as could be needed. -/
theorem getElem?_take_append_replicate (l : List Byte) (v : Byte) {n k : Nat} (h : k < n) :
    ((l ++ List.replicate n v).take n)[k]? = some (l.getD k v) := by
  rw [List.getElem?_take_of_lt h, List.getD_eq_getElem?_getD]
  by_cases hk : k < l.length
  · rw [List.getElem?_append_left hk]
    simp [hk]
  · rw [List.getElem?_append_right (Nat.not_lt.mp hk), List.getElem?_replicate_of_lt (by omega),
      List.getElem?_eq_none (Nat.not_lt.mp hk)]
    rfl

/-- The bytes sent after the two status bytes, up to those that are all alike (R157, R160, R161, R166). -/
def message (x : Txn) : List Byte :=
  match x.kind, x.finding with
  | some .fetch, _ => replyMessage x.chosen
  | some .post, .decided length accept | none, .decided length accept => List.replicate (length + 1) 0x00#8 ++ [accept]
  | some .post, .malformed fromByte | none, .malformed fromByte => List.replicate (fromByte - 3) 0x00#8
  | _, _ => []

/-- What follows them. -/
def filler (x : Txn) : Byte :=
  match x.kind, x.finding with
  | some .post, .malformed _ | none, .malformed _ => 0x03#8
  | _, _ => 0x00#8

theorem stream_eq (x : Txn) (n : Nat) :
    x.stream n = ([x.status0, x.status1] ++ message x ++ List.replicate n (filler x)).take n := by
  simp only [Txn.stream, message, filler, postStream, fetchStream, statusStream]
  cases x.kind with
  | none => cases x.finding <;> rfl
  | some kind => cases kind <;> cases x.finding <;> rfl

theorem kind_eq_fetch_iff (x : Txn) : x.kind = some .fetch ↔ x.received.head? = some 0x02#8 := by
  cases h : x.received.head? with
  | none => simp [Txn.kind, h]
  | some b =>
    simp only [Txn.kind, h, Option.bind_some, txnKindOf, Option.some.injEq]
    split
    · simp [*]
    · split <;> simp [*]

theorem kind_eq_statusOnly_iff (x : Txn) : x.kind = some .statusOnly ↔ x.received.head? = some 0x03#8 := by
  cases h : x.received.head? with
  | none => simp [Txn.kind, h]
  | some b =>
    simp only [Txn.kind, h, Option.bind_some, txnKindOf, Option.some.injEq]
    split
    · simp [*]
    · split
      · simp [*]
      · split <;> simp [*]

theorem sentByte_of_fetch {x : Txn} (h : x.kind = some .fetch) (m : Nat) :
    sentByte x (m + 3) = (replyMessage x.chosen).getD m 0x00#8 := by
  simp only [sentByte, (kind_eq_fetch_iff x).mp h]
  cases x.chosen <;> simp [replyMessage, byte]

theorem sentByte_of_statusOnly {x : Txn} (h : x.kind = some .statusOnly) (m : Nat) : sentByte x (m + 3) = 0x00#8 := by
  simp [sentByte, (kind_eq_statusOnly_iff x).mp h]

/-- In a POST, and while the kind is not known or malformed, what is sent goes by the finding. -/
theorem sentByte_of_other {x : Txn} (hf : x.kind ≠ some .fetch) (hs : x.kind ≠ some .statusOnly) (m : Nat) :
    (x.finding = .undecided → sentByte x (m + 3) = 0x00#8)
    ∧ (∀ n accept, x.finding = .decided n accept → sentByte x (m + 3) = if m = n + 1 then accept else 0x00#8)
    ∧ (∀ n, x.finding = .malformed n → sentByte x (m + 3) = if n ≤ m + 3 then 0x03#8 else 0x00#8) := by
  have hlater : ¬m + 3 = 1 ∧ ¬m + 3 = 2 := by omega
  refine ⟨fun h => ?_, fun n accept h => ?_, fun n h => ?_⟩ <;>
    simp only [sentByte, mt (kind_eq_fetch_iff x).mpr hf, mt (kind_eq_statusOnly_iff x).mpr hs, if_false, hlater, h]
  simp only [show m + 3 = 4 + n ↔ m = n + 1 by omega]

theorem message_getD_of_other {x : Txn} (hf : x.kind ≠ some .fetch) (hs : x.kind ≠ some .statusOnly) (m : Nat) :
    (message x).getD m (filler x) = sentByte x (m + 3) := by
  obtain ⟨hundecided, hdecided, hmalformed⟩ := sentByte_of_other hf hs m
  have hkind : x.kind = some .post ∨ x.kind = none := by
    cases hk : x.kind with
    | none => exact .inr rfl
    | some kind => cases kind <;> simp_all
  cases hx : x.finding with
  | undecided => obtain hk | hk := hkind <;> simp [message, filler, hk, hx, hundecided hx]
  | decided n accept =>
    have hmessage : message x = List.replicate (n + 1) 0x00#8 ++ [accept] := by
      obtain hk | hk := hkind <;> simp [message, hk, hx]
    have hfiller : filler x = 0x00#8 := by
      obtain hk | hk := hkind <;> simp [filler, hk, hx]
    rw [hmessage, hfiller, hdecided n accept hx, List.getD_eq_getElem?_getD]
    obtain hm | rfl | hm := Nat.lt_trichotomy m (n + 1)
    · rw [List.getElem?_append_left (by simpa using hm), List.getElem?_replicate_of_lt hm, if_neg (Nat.ne_of_lt hm)]
      rfl
    · simp
    · rw [List.getElem?_eq_none (by simp; omega), if_neg (Nat.ne_of_gt hm)]
      rfl
  | malformed n =>
    have hmessage : message x = List.replicate (n - 3) 0x00#8 := by
      obtain hk | hk := hkind <;> simp [message, hk, hx]
    have hfiller : filler x = 0x03#8 := by
      obtain hk | hk := hkind <;> simp [filler, hk, hx]
    rw [hmessage, hfiller, hmalformed n hx, List.getD_eq_getElem?_getD, List.getElem?_replicate]
    by_cases hm : m < n - 3
    · rw [if_pos hm, if_neg (by omega)]
      rfl
    · rw [if_neg hm, if_pos (by omega)]
      rfl

theorem message_getD (x : Txn) (m : Nat) : (message x).getD m (filler x) = sentByte x (m + 3) := by
  by_cases hf : x.kind = some .fetch
  · rw [sentByte_of_fetch hf]
    simp [message, filler, hf]
  · by_cases hs : x.kind = some .statusOnly
    · rw [sentByte_of_statusOnly hs]
      simp [message, filler, hs]
    · exact message_getD_of_other hf hs m

theorem listed_getD (x : Txn) (k : Nat) :
    ([x.status0, x.status1] ++ message x).getD k (filler x) = sentByte x (k + 1) := by
  match k with
  | 0 | 1 => rfl
  | m + 2 => exact message_getD x m

/-- Byte k of what is sent in a transaction (R157). -/
theorem getElem?_stream (x : Txn) {n k : Nat} (h : k < n) : (x.stream n)[k]? = some (sentByte x (k + 1)) := by
  rw [stream_eq, getElem?_take_append_replicate _ _ h, listed_getD]

theorem nextBit_eq (x : Txn) (h : x.bits.length < 8) :
    nextBit x.stream x.clocks = (sentByte x (x.received.length + 1)).getLsbD (7 - x.bits.length) := by
  have hdiv : x.clocks / 8 = x.received.length := by rw [Txn.clocks]; omega
  rw [nextBit, hdiv, Txn.clocks, List.getD_eq_getElem?_getD, getElem?_flatMap_byteBits _ _ h,
    getElem?_stream x (Nat.lt_succ_self _)]
  rfl

/-- A falling edge shows the next bit of the byte being sent (R157). -/
theorem shiftOut_eq {x : Txn} (h : x.bits.length < 8) : x.shiftOut = shown x := by
  rw [Txn.shiftOut, nextBit_eq x h]
  rfl

theorem take_flatMap_byteBits (l : List Byte) (n : Nat) :
    (l.take n).flatMap byteBits = (l.flatMap byteBits).take (8 * n) := by
  induction l generalizing n with
  | nil => simp
  | cons b l ih =>
    cases n with
    | zero => simp
    | succ n =>
      rw [List.take_succ_cons, List.flatMap_cons, List.flatMap_cons, List.take_append, ih, byteBits_length,
        List.take_of_length_le (l := byteBits b) (by rw [byteBits_length]; omega), show 8 * (n + 1) - 8 = 8 * n by omega]

/-- The bits sent, from bytes whose first ones are those of the stream. -/
theorem sentBits_eq {stream : Nat → List Byte} {clocks : Nat} {bytes : List Byte}
    (h : stream (clocks / 8 + 1) = bytes.take (clocks / 8 + 1)) : sentBits stream clocks = bitsOf bytes clocks := by
  rw [sentBits, h, take_flatMap_byteBits, List.take_take, Nat.min_eq_left (by omega)]
  rfl

/-- How many of the bytes that are all alike are listed does not matter, while there are enough. -/
theorem take_append_replicate {l : List Byte} {v : Byte} {n c : Nat} (h : n ≤ l.length + c) :
    (l ++ List.replicate n v).take n = (l ++ List.replicate c v).take n := by
  rw [List.take_append, List.take_append, List.take_replicate, List.take_replicate,
    show min (n - l.length) n = min (n - l.length) c by omega]

/-- The bits sent in a transaction. -/
theorem sentBits_stream (x : Txn) :
    sentBits x.stream x.clocks
      = bitsOf ([x.status0, x.status1] ++ message x ++ List.replicate (edges x) (filler x)) (edges x) := by
  refine sentBits_eq ?_
  rw [stream_eq]
  refine take_append_replicate ?_
  have hclocks : x.clocks = edges x := rfl
  simp only [List.length_append, List.length_cons, List.length_nil, hclocks]
  omega

/-- The end of a transaction: it is over, and its bits have been sent. -/
theorem endTxn_eq (x : Txn) (s : State) :
    endTxn x s = txnOver ([x.status0, x.status1] ++ message x ++ List.replicate (edges x) (filler x)) x s := by
  rw [endTxn, sentBits_stream]
  rfl

end Sys2Proof.Proofs.Transactions
end

section
/-! PROOFS. What the instants of a transaction do (O6 to O10). -/

namespace Sys2Proof.Proofs.TransactionSteps

open Sys2Proof Sys2Proof.Machine Sys2Proof.Cert Sys2Proof.Proofs.PortAndGroup Sys2Proof.Proofs.Transactions

/-! ### The rise of CS_N -/

theorem kind_of_head {x : Txn} {b : Byte} (h : x.received.head? = some b) : x.kind = txnKindOf b := by
  simp [Txn.kind, h]

theorem txnKindOf_eq_none {b : Byte} (h1 : b ≠ 0x01#8) (h2 : b ≠ 0x02#8) (h3 : b ≠ 0x03#8) : txnKindOf b = none := by
  rw [txnKindOf, if_neg h1, if_neg h2, if_neg h3]

section
variable {x : Txn} {s : State}

theorem riseOfCsn_of_post (hx : s.ctl.txn = some x) (hk : x.kind = some .post) :
    riseOfCsn s = if x.finding = .undecided then portErrorSet (endTxn x s) else endTxn x s := by
  simp only [riseOfCsn, hx, hk]
  rfl

theorem riseOfCsn_of_none (hx : s.ctl.txn = some x) (hk : x.kind = none) : riseOfCsn s = endTxn x s := by
  simp only [riseOfCsn, hx, hk]

theorem riseOfCsn_of_statusOnly (hx : s.ctl.txn = some x) (hk : x.kind = some .statusOnly) :
    riseOfCsn s = endTxn x s := by
  simp only [riseOfCsn, hx, hk]

theorem riseOfCsn_of_fetch (hx : s.ctl.txn = some x) (hk : x.kind = some .fetch) :
    riseOfCsn s = if sentWhole x = true ∧ x.chosenHeld = true then
        { endTxn x s with ctl := { (endTxn x s).ctl with replies := s.ctl.replies.tail } }
      else endTxn x s := by
  simp only [riseOfCsn, hx, hk]
  rfl

end

/-- The bits sent before byte 1 is complete are the first of the status bytes' (R157). -/
theorem endTxn_of_cut {x : Txn} (hr : x.received = []) (hb : x.bits.length < 8) (s : State) :
    endTxn x s = txnOver [x.status0] x s := by
  have hclocks : x.clocks = edges x := rfl
  have hdiv : x.clocks / 8 = 0 := by rw [Txn.clocks, hr, List.length_nil]; omega
  have hsent : sentBits x.stream x.clocks = bitsOf [x.status0] (edges x) := by
    rw [← hclocks]
    refine sentBits_eq ?_
    rw [hdiv, stream_eq]
    rfl
  rw [endTxn, hsent]
  rfl

/-! ### Bits and bytes on SDI -/

theorem boolCode_getLsbD (b : Byte) (i : Nat) : boolCode (b.getLsbD i) = b.toNat / 2 ^ i % 2 := by
  rw [BitVec.getLsbD, Nat.testBit_eq_decide_div_mod_eq]
  by_cases h : b.toNat / 2 ^ i % 2 = 1
  · simp [boolCode, h]
  · simp [boolCode, h]
    omega

/-- A byte's bits, read one after another, give its value (R157). -/
theorem byteOf_bitsOfByte (v : Byte) : byteOf (bitsOfByte v) = v := by
  have hv := v.isLt
  have hfirst : 2 * 0 + v.toNat / 2 ^ 7 % 2 = v.toNat / 2 ^ 7 := by omega
  have hnext (i : Nat) : 2 * (v.toNat / 2 ^ (i + 1)) + v.toNat / 2 ^ i % 2 = v.toNat / 2 ^ i := by
    rw [Nat.pow_succ, ← Nat.div_div_eq_div_mul]
    omega
  simp only [byteOf, bitsOfByte, List.foldl_cons, List.foldl_nil, boolCode_getLsbD]
  rw [hfirst, hnext, hnext, hnext, hnext, hnext, hnext, hnext, pow_zero, Nat.div_one, BitVec.ofNat_toNat, BitVec.setWidth_eq]

/-- A period of SCK that does not complete a byte (R157). -/
theorem sckPeriod_of_short {s : State} {x : Txn} (hx : s.ctl.txn = some x) {b : Bool} (h : x.bits.length + 1 < 8) :
    sckPeriod s b = withTxn (shown { x with bits := x.bits ++ [b] }) s := by
  have hlength : (x.bits ++ [b]).length < 8 := by simpa using h
  have hclock : clockIn b s = withTxn { x with bits := x.bits ++ [b] } s := by
    simp only [clockIn, hx, if_pos hlength]
    rfl
  rw [sckPeriod, hclock]
  exact congrArg (withTxn · s) (shiftOut_eq hlength)

/-- Periods of SCK that do not complete a byte. -/
theorem clocks_of_short {s : State} {x : Txn} (hx : s.ctl.txn = some x) {sdi : List Bool} (hne : sdi ≠ [])
    (h : x.bits.length + sdi.length < 8) :
    sdi.foldl sckPeriod s = withTxn (shown { x with bits := x.bits ++ sdi }) s := by
  induction sdi generalizing s x with
  | nil => exact absurd rfl hne
  | cons b sdi ih =>
    rw [List.length_cons] at h
    rw [List.foldl_cons, sckPeriod_of_short hx (by omega)]
    by_cases hsdi : sdi = []
    · subst hsdi
      rfl
    · rw [ih (s := withTxn (shown { x with bits := x.bits ++ [b] }) s) rfl hsdi (by simp [shown]; omega)]
      simp only [shown, List.append_assoc]
      rfl

/-- A transaction with one more complete byte, before what it brings has been found. -/
def completed (x : Txn) (v : Byte) (drive : Bool) : Txn :=
  { x with bits := [], received := x.received ++ [v], drive := drive }

theorem clockIn_of_completes {s : State} {x : Txn} (hx : s.ctl.txn = some x) {b : Bool} {v : Byte}
    (h : x.bits ++ [b] = bitsOfByte v) : clockIn b s = readByte (completed x v x.drive) s := by
  have hlength : ¬(x.bits ++ [b]).length < 8 := by rw [h]; simp [bitsOfByte]
  simp only [clockIn, hx, if_neg hlength]
  rw [h, byteOf_bitsOfByte]
  rfl

/-- Periods of SCK that complete a byte: the byte is read, and the falling edge shows the next bit. What SDO showed until then
does not stand in the result. -/
theorem exists_clocks_of_completes {s : State} {x : Txn} (hx : s.ctl.txn = some x) {sdi : List Bool} {v : Byte}
    (h : Completes x sdi v) :
    ∃ drive z, sdi.foldl sckPeriod s = shiftSdo (readByte (completed x v drive) (withTxn z s)) := by
  obtain ⟨hne, hbits⟩ := h
  have hlength := congrArg List.length hbits
  simp only [List.length_append, bitsOfByte, List.length_cons, List.length_nil] at hlength
  obtain ⟨first, b, rfl⟩ : ∃ first b, sdi = first ++ [b] := ⟨_, _, (List.dropLast_append_getLast hne).symm⟩
  rw [List.foldl_append]
  by_cases hfirst : first = []
  · subst hfirst
    have hs : withTxn x s = s := by
      rcases s with ⟨_, _, _, _, _, _, _, _, _, _, ⟨_, _, _, _, _, _, _, _⟩, _⟩
      dsimp only at hx
      subst hx
      rfl
    refine ⟨x.drive, x, ?_⟩
    rw [hs]
    exact congrArg shiftSdo (clockIn_of_completes hx hbits)
  · simp only [List.length_append, List.length_cons, List.length_nil] at hlength
    have hpos := List.length_pos_iff.mpr hfirst
    rw [clocks_of_short hx hfirst (by omega)]
    refine ⟨_, _, congrArg shiftSdo (clockIn_of_completes (x := shown { x with bits := x.bits ++ first }) rfl ?_)⟩
    rw [← hbits, ← List.append_assoc]
    rfl

/-! ### What a byte brings -/

section
variable {s : State} {x : Txn} {sdi : List Bool} {v : Byte}

theorem shiftSdo_eq (hx : s.ctl.txn = some x) (h : x.bits.length < 8) : shiftSdo s = withTxn (shown x) s := by
  simp only [shiftSdo, hx]
  exact congrArg (withTxn · s) (shiftOut_eq h)

/-- A byte that brings nothing. -/
theorem clocks_of_nothing (hx : s.ctl.txn = some x) (h : Completes x sdi v)
    (hread : ∀ drive z, readByte (completed x v drive) (withTxn z s) = putTxn (completed x v drive) (withTxn z s)) :
    sdi.foldl sckPeriod s = withTxn (grown x v x.finding) s := by
  obtain ⟨drive, z, heq⟩ := exists_clocks_of_completes hx h
  rw [heq, hread, shiftSdo_eq (x := completed x v drive) rfl (by simp [completed])]
  rfl

/-- A byte that makes the transaction malformed (R161). -/
theorem clocks_of_malformed (hx : s.ctl.txn = some x) (h : Completes x sdi v) {n : Nat}
    (hread : ∀ drive z, readByte (completed x v drive) (withTxn z s) = findMalformed n (completed x v drive) (withTxn z s)) :
    sdi.foldl sckPeriod s = portErrorSet (withTxn (grown x v (.malformed n)) s) := by
  obtain ⟨drive, z, heq⟩ := exists_clocks_of_completes hx h
  rw [heq, hread, shiftSdo_eq (x := { completed x v drive with finding := .malformed n }) rfl (by simp [completed])]
  rfl

/-- A byte that completes a request that is refused (R160). -/
theorem clocks_of_refused (hx : s.ctl.txn = some x) (h : Completes x sdi v) {r : Request} (hno : acceptByte s.ctl ≠ 0x01#8)
    (hread : ∀ drive z, readByte (completed x v drive) (withTxn z s) = completePost r (completed x v drive) (withTxn z s)) :
    sdi.foldl sckPeriod s = withTxn (grown x v (.decided r.params.length (acceptByte s.ctl))) s := by
  obtain ⟨drive, z, heq⟩ := exists_clocks_of_completes hx h
  have haccept : acceptByte (withTxn z s).ctl = acceptByte s.ctl := rfl
  rw [heq, hread, completePost, haccept, if_neg hno,
    shiftSdo_eq (x := { completed x v drive with finding := .decided r.params.length (acceptByte s.ctl) }) rfl
      (by simp [completed])]
  rfl

theorem enqueue_withTxn (r : Request) (x : Option Txn) (c : ControlPort) :
    enqueue r { c with txn := x } = { enqueue r c with txn := x } := by
  rcases c with ⟨_, _, requests, processing, _, _, _, _⟩
  cases processing <;> cases requests <;> rfl

/-- A byte that completes a request that is accepted (R160). -/
theorem clocks_of_accepted (hx : s.ctl.txn = some x) (h : Completes x sdi v) {r : Request}
    (hyes : acceptByte s.ctl = 0x01#8)
    (hread : ∀ drive z, readByte (completed x v drive) (withTxn z s) = completePost r (completed x v drive) (withTxn z s)) :
    sdi.foldl sckPeriod s
      = { s with ctl := { enqueue r s.ctl with txn := some (grown x v (.decided r.params.length 0x01#8)) } } := by
  obtain ⟨drive, z, heq⟩ := exists_clocks_of_completes hx h
  have haccept : acceptByte (withTxn z s).ctl = 0x01#8 := hyes
  have hpost : completePost r (completed x v drive) (withTxn z s) = { s with ctl := { enqueue r s.ctl with
      txn := some { completed x v drive with finding := .decided r.params.length 0x01#8 } } } := by
    rw [completePost, haccept, if_pos rfl, ← enqueue_withTxn]
    rfl
  rw [heq, hread, hpost,
    shiftSdo_eq (x := { completed x v drive with finding := .decided r.params.length 0x01#8 }) rfl (by simp [completed])]
  rfl

end

/-! ### What is found as a byte completes (R159) -/

section
variable {x : Txn} {s : State}

theorem readByte_of_malformed {n : Nat} (h : x.finding = .malformed n) : readByte x s = putTxn x s := by
  simp only [readByte, h]

/-- The bytes of a FETCH or a STATUS ONLY after byte 1, and byte 1 of them, bring nothing. -/
theorem readByte_of_not_post {kind : TxnKind} (hk : x.kind = some kind) (hne : kind ≠ .post) :
    readByte x s = putTxn x s := by
  simp only [readByte, hk]
  cases kind with
  | post => exact absurd rfl hne
  | fetch | statusOnly => cases x.finding <;> rfl

/-- The first two bytes of a POST bring nothing. -/
theorem readByte_of_early_post (hk : x.kind = some .post) (h : x.received.length ≤ 2) : readByte x s = putTxn x s := by
  rcases hr : x.received with _ | ⟨a, _ | ⟨b, _ | ⟨c, rest⟩⟩⟩
  case cons.cons.cons => simp [hr] at h
  all_goals cases hf : x.finding <;> simp only [readByte, hf, hk, hr]

theorem readByte_of_unknown_kind {b : Byte} (hf : x.finding = .undecided) (hr : x.received = [b]) (hk : x.kind = none) :
    readByte x s = findMalformed 3 x s := by
  simp only [readByte, hf, hk, hr]

theorem readByte_of_post {code length : Byte} {ps : List Byte} (hf : x.finding = .undecided)
    (hr : x.received = [0x01#8, code, length] ++ ps) : readByte x s = readPost code length ps x s := by
  have hk : x.kind = some .post := by rw [Txn.kind, hr]; rfl
  have hr' : x.received = 0x01#8 :: code :: length :: ps := hr
  simp only [readByte, hf, hk, hr']

end

/-! ### The obligations -/

theorem kind_completed (x : Txn) (v : Byte) (drive : Bool) :
    (completed x v drive).kind = ((x.received ++ [v]).head?).bind txnKindOf := rfl

theorem kind_completed_of_head {x : Txn} {b : Byte} (h : x.received.head? = some b) (v : Byte) (drive : Bool) :
    (completed x v drive).kind = txnKindOf b := by
  rw [kind_completed, List.head?_append, h]
  rfl

theorem kind_completed_of_nil {x : Txn} (h : x.received = []) (v : Byte) (drive : Bool) :
    (completed x v drive).kind = txnKindOf v := by
  rw [kind_completed, h]
  rfl

/-- Settles O8: by what has been found of the POST. -/
theorem postEnds : Obligations.PostEnds := by
  intro t s x hx c hc
  have hrise := exec_wireRow hc s
  have hxt : (tick t s).ctl.txn = some x := hx
  refine ⟨fun n accept hhead hf => ?_, fun hhead hf => ?_, fun hr hb => ?_⟩
  · have hk : x.kind = some .post := kind_of_head hhead
    have hend : riseOfCsn (tick t s) = endTxn x (tick t s) := by
      rw [riseOfCsn_of_post hxt hk, hf, if_neg (by simp)]
    rw [hrise, wireEvent, hend, endTxn_eq, message, filler, hk, hf]
    simp only [List.append_assoc]
    rfl
  · have hk : x.kind = some .post := kind_of_head hhead
    have hend : riseOfCsn (tick t s) = portErrorSet (endTxn x (tick t s)) := by
      rw [riseOfCsn_of_post hxt hk, if_pos hf]
    rw [hrise, wireEvent, hend, endTxn_eq, message, filler, hk, hf]
    rfl
  · have hk : x.kind = none := by simp [Txn.kind, hr]
    rw [hrise, wireEvent, riseOfCsn_of_none hxt hk, endTxn_of_cut hr hb]
    rfl

/-- Settles O9: what is found stands until the rise. -/
theorem malformedTransactions : Obligations.MalformedTransactions := by
  intro t s x hx
  have hxt : (tick t s).ctl.txn = some x := hx
  refine ⟨fun sdi v hv c hc => ⟨fun hf hr h1 h2 h3 => ?_, fun code hf hr hlong => ?_, fun n hf => ?_⟩,
    fun c hc => ⟨fun kind hf hhead h1 h2 h3 => ?_, fun hf hhead => ?_⟩⟩
  · rw [exec_wireRow hc, wireEvent]
    refine congrArg Host.Outcome.next (clocks_of_malformed hxt hv fun drive z => ?_)
    refine readByte_of_unknown_kind (b := v) hf (by simp [completed, hr]) ?_
    rw [kind_completed_of_nil hr, txnKindOf_eq_none h1 h2 h3]
  · rw [exec_wireRow hc, wireEvent]
    refine congrArg Host.Outcome.next (clocks_of_malformed hxt hv fun drive z => ?_)
    rw [readByte_of_post (x := completed x v drive) (code := code) (length := v) (ps := []) hf (by simp [completed, hr]),
      readPost,
      if_pos (show Config.maxLength < v.toNat from hlong)]
  · rw [exec_wireRow hc, wireEvent]
    refine congrArg Host.Outcome.next ((clocks_of_nothing hxt hv fun drive z => ?_).trans (by rw [hf]; rfl))
    exact readByte_of_malformed hf
  · have hk : x.kind = none := (kind_of_head hhead).trans (txnKindOf_eq_none h1 h2 h3)
    rw [exec_wireRow hc, wireEvent, riseOfCsn_of_none hxt hk, endTxn_eq, message, filler, hk, hf]
    rfl
  · have hk : x.kind = some .post := kind_of_head hhead
    rw [exec_wireRow hc, wireEvent, riseOfCsn_of_post hxt hk, hf, if_neg (by simp), endTxn_eq, message, filler, hk, hf]
    rfl

/-- Settles O10: by the kind of the transaction and by whether the reply's last byte was complete. -/
theorem fetchAndStatusOnlyEnd : Obligations.FetchAndStatusOnlyEnd := by
  intro t s x hx hf
  have hxt : (tick t s).ctl.txn = some x := hx
  refine ⟨fun sdi v hv c hc hwhen => ?_, fun c hc => ⟨fun hhead => ⟨fun r hr hheld hwhole => ?_, fun r hr hnot => ?_,
    fun hnone => ?_⟩, fun hhead => ?_⟩⟩
  · rw [exec_wireRow hc, wireEvent]
    refine congrArg Host.Outcome.next ((clocks_of_nothing hxt hv fun drive z => ?_).trans (by rw [hf]; rfl))
    obtain hhead | hhead | ⟨hr, hv⟩ | hr := hwhen
    · exact readByte_of_not_post (kind := .fetch) (kind_completed_of_head hhead v drive) (by simp)
    · exact readByte_of_not_post (kind := .statusOnly) (kind_completed_of_head hhead v drive) (by simp)
    · have hk := kind_completed_of_nil hr v drive
      simp only [List.mem_cons, List.not_mem_nil, or_false] at hv
      obtain rfl | rfl | rfl := hv
      · exact readByte_of_early_post hk (by simp [completed, hr])
      · exact readByte_of_not_post (kind := .fetch) hk (by simp)
      · exact readByte_of_not_post (kind := .statusOnly) hk (by simp)
    · exact readByte_of_early_post (kind_completed_of_head (b := 0x01#8) (by simp [hr]) v drive) (by simp [completed, hr])
  · have hk : x.kind = some .fetch := kind_of_head hhead
    have hsent : sentWhole x = true := by simp [sentWhole, hr, hwhole]
    rw [exec_wireRow hc, wireEvent, riseOfCsn_of_fetch hxt hk, if_pos ⟨hsent, hheld⟩, endTxn_eq, message, filler, hk, hr]
    rfl
  · have hk : x.kind = some .fetch := kind_of_head hhead
    have hkeep : ¬(sentWhole x = true ∧ x.chosenHeld = true) := by
      rintro ⟨hsent, hheld⟩
      obtain hnot | hnot := hnot
      · simp [hnot] at hheld
      · simp only [sentWhole, hr, decide_eq_true_eq] at hsent
        omega
    rw [exec_wireRow hc, wireEvent, riseOfCsn_of_fetch hxt hk, if_neg hkeep, endTxn_eq, message, filler, hk, hr]
    rfl
  · have hk : x.kind = some .fetch := kind_of_head hhead
    have hkeep : ¬(sentWhole x = true ∧ x.chosenHeld = true) := by simp [sentWhole, hnone]
    rw [exec_wireRow hc, wireEvent, riseOfCsn_of_fetch hxt hk, if_neg hkeep, endTxn_eq, message, filler, hk, hnone]
    rfl
  · have hk : x.kind = some .statusOnly := kind_of_head hhead
    rw [exec_wireRow hc, wireEvent, riseOfCsn_of_statusOnly hxt hk, endTxn_eq, message, filler, hk, hf]
    rfl

/-- The capacity in use decides, once the part has started (R160, R163). -/
theorem acceptByte_of_ready {c : ControlPort} (h : c.phase = .ready) :
    acceptByte c = if 8 ≤ c.requests.length + (if c.processing.isSome then 1 else 0) + c.replies.length then 0x02#8
      else 0x01#8 := by
  rw [acceptByte, h]
  rfl

/-- A request that joins the queue (R164). -/
theorem enqueue_spec (r : Request) (c : ControlPort) :
    enqueue r c = { c with requests := (enqueue r c).requests, processing := (enqueue r c).processing }
    ∧ (c.processing = none → c.requests = [] → (enqueue r c).processing = some r ∧ (enqueue r c).requests = [])
    ∧ (c.processing ≠ none →
        (enqueue r c).processing = c.processing ∧ (enqueue r c).requests = c.requests ++ [r]) := by
  rcases c with ⟨_, _, requests, processing, _, _, _, _⟩
  cases processing with
  | none => exact ⟨by cases requests <;> rfl, fun _ h => by cases h; exact ⟨rfl, rfl⟩, fun h => absurd rfl h⟩
  | some p => exact ⟨rfl, fun h => absurd h (Option.some_ne_none p), fun _ => ⟨rfl, rfl⟩⟩

/-- Settles O7: the byte is the last of the request, and the decision falls as it completes. -/
theorem postCompletionDecides : Obligations.PostCompletionDecides := by
  intro t s x sdi v code ps hx hf hv hlen hr c hc
  have hxt : (tick t s).ctl.txn = some x := hx
  have hlength : (BitVec.ofNat 8 ps.length).toNat = ps.length := by
    rw [BitVec.toNat_ofNat]
    omega
  have hread (drive : Bool) (z : Txn) : readByte (completed x v drive) (withTxn z (tick t s))
      = completePost ⟨code, ps⟩ (completed x v drive) (withTxn z (tick t s)) := by
    rw [readByte_of_post (x := completed x v drive) (code := code) (length := BitVec.ofNat 8 ps.length) (ps := ps) hf hr,
      readPost, hlength, if_neg (show ¬Config.maxLength < ps.length from Nat.not_lt.mpr hlen), if_pos rfl]
  have hexec : exec c s = .next (sdi.foldl sckPeriod (tick t s)) := exec_wireRow hc s
  refine ⟨fun hphase => ?_, fun hphase hfull => ?_, fun hphase hroom => ?_⟩
  · have haccept : acceptByte (tick t s).ctl = 0x04#8 := by rw [acceptByte, tick_ctl, hphase]
    rw [hexec, clocks_of_refused hxt hv (by rw [haccept]; decide) hread, haccept]
    rfl
  · have haccept : acceptByte (tick t s).ctl = 0x02#8 := (acceptByte_of_ready hphase).trans (if_pos hfull)
    rw [hexec, clocks_of_refused hxt hv (by rw [haccept]; decide) hread, haccept]
    rfl
  · have haccept : acceptByte (tick t s).ctl = 0x01#8 :=
      (acceptByte_of_ready hphase).trans (if_neg (Nat.not_le.mpr hroom))
    obtain ⟨hkept, hfirst, hlater⟩ := enqueue_spec ⟨code, ps⟩ s.ctl
    refine ⟨_, hexec.trans (congrArg _ (clocks_of_accepted hxt hv haccept hread)), ?_, hfirst, hlater⟩
    rw [tick_ctl, hkept]
    rfl

/-! ### The fall of CS_N and the periods of SCK -/

/-- The snapshot's two bytes (R158, R177). -/
theorem status_eq_snapshot (s : State) : (statusByte0 s, statusByte1 s) = snapshot s := by
  have hattention : 64 * boolCode (attention s) = if flagWord s &&& s.ev.mask ≠ 0#16 then 64 else 0 := by
    by_cases h : flagWord s &&& s.ev.mask = 0#16 <;> simp [attention, boolCode, h]
  have hport : 32 * boolCode (flagSet .portError s) = if s.ev.flags.getLsbD 13 = true then 32 else 0 := by
    rw [flagSet, getLsbD_flagWord]
    show 32 * boolCode (s.ev.flags.getLsbD 13) = _
    cases s.ev.flags.getLsbD 13 <;> rfl
  have hphase : 128 * s.ctl.phase.code = if s.ctl.phase = .ready then 128 else 0 := by
    cases s.ctl.phase <;> rfl
  rw [snapshot, ← hattention, ← hport, ← hphase]
  rfl

theorem beginTxn_of_idle {s : State} (hheld : s.ctl.heldOff = false) (hx : s.ctl.txn = none) :
    beginTxn s = withTxn
        { status0 := (snapshot s).1, status1 := (snapshot s).2, chosen := s.ctl.replies.head?,
          chosenHeld := s.ctl.replies.head?.isSome, bits := [], received := [], finding := .undecided,
          drive := (snapshot s).1.getLsbD 7 } s := by
  rw [beginTxn, if_neg (by simp [hheld, hx]), shiftOut_eq (by simp), ← status_eq_snapshot]
  rfl

theorem foldl_sckPeriod_of_none (sdi : List Bool) {s : State} (h : s.ctl.txn = none) : sdi.foldl sckPeriod s = s := by
  induction sdi with
  | nil => rfl
  | cons b sdi ih =>
    have hperiod : sckPeriod s b = s := by simp only [sckPeriod, clockIn, h, shiftSdo]
    rw [List.foldl_cons, hperiod, ih]

/-- Settles O6: edge by edge, by whether a transaction is in progress. -/
theorem fallOfCsnTakesSnapshot : Obligations.FallOfCsnTakesSnapshot := by
  refine ⟨fun t s c hc => ⟨fun hheld hx => ?_, fun hno => ?_⟩, fun t s b sdi hx ev hev c hc => ?_,
    fun t s x hx => ⟨fun b hb c hc => ?_, fun hb c hc => ?_, fun sdi hne hb c hc => ?_⟩, fun t s b c hc => ?_,
    fun t s a b c hc => ?_, fun s => ⟨fun hx => ?_, fun x hx => ?_⟩⟩
  · rw [exec_wireRow hc, wireEvent, beginTxn_of_idle (s := tick t s) hheld hx]
    rfl
  · rw [exec_wireRow hc, wireEvent, beginTxn, tick_ctl, if_pos (hno.imp id Option.isSome_iff_ne_none.mpr)]
    rfl
  · have hxt : (tick t s).ctl.txn = none := hx
    rw [exec_wireRow hc]
    simp only [List.mem_cons, List.not_mem_nil, or_false] at hev
    obtain rfl | rfl | rfl | rfl := hev
    · simp only [wireEvent, clockIn, hxt]
      rfl
    · simp only [wireEvent, shiftSdo, hxt]
      rfl
    · rw [wireEvent, foldl_sckPeriod_of_none sdi hxt]
      rfl
    · simp only [wireEvent, riseOfCsn, hxt]
      rfl
  · have hlength : (x.bits ++ [b]).length < 8 := by simpa using hb
    have hxt : (tick t s).ctl.txn = some x := hx
    rw [exec_wireRow hc]
    simp only [wireEvent, clockIn, hxt, if_pos hlength]
    rfl
  · rw [exec_wireRow hc, wireEvent, shiftSdo_eq (s := tick t s) hx hb]
    rfl
  · rw [exec_wireRow hc, wireEvent, clocks_of_short (s := tick t s) hx hne hb]
    rfl
  · refine ⟨clockIn b (tick t s), exec_wireRow hc s, sdoPin_clockIn b (tick t s), fun d hd => ?_⟩
    have hfall : exec (.post t .sckFall) (clockIn b (tick t s)) = .next (shiftSdo (clockIn b (tick t s))) := by
      rw [exec_wireRow (t := t) (ev := .sckFall) (by simp [wireRows]), tick_of_le (by simp)]
      rfl
    rw [exec_wireRow hd, hfall]
    rfl
  · refine ⟨a.foldl sckPeriod (tick t s), exec_wireRow hc s, fun d hd => ?_⟩
    have hrest : exec (.post t (.clocks b)) (a.foldl sckPeriod (tick t s))
        = .next (b.foldl sckPeriod (a.foldl sckPeriod (tick t s))) := by
      rw [exec_wireRow (t := t) (ev := .clocks b) (by simp [wireRows]), tick_of_le (by simp)]
      rfl
    rw [exec_wireRow hd, hrest, wireEvent, List.foldl_append]
  · simp [sdoPin, hx]
  · simp [sdoPin, hx]

end Sys2Proof.Proofs.TransactionSteps
end

section
/-! PROOFS. The candidates and the lookup (O49). -/

namespace Sys2Proof.Proofs.Lookup

open Sys2Proof Sys2Proof.Machine Sys2Proof.Cert Sys2Proof.Proofs.Basics Sys2Proof.Proofs.ActiveRecord
open Sys2Proof.Proofs.CatalogueRequests Sys2Proof.Proofs.PacerRequests

/-! ### Matching and candidate order -/

theorem stored_eq_some_iff {r : ModeRecord} {c : Content} :
    r.stored = some c ↔ r.state ≠ .free ∧ r.content = some c := by
  by_cases h : r.state = .free
  · simp [stored_of_free h, h]
  · simp [stored_of_not_free h, h]

theorem agrees_iff {α : Type} [DecidableEq α] (k : Option α) (v : α) : agrees k v = true ↔ ∀ x, k = some x → x = v := by
  cases k <;> simp [agrees]

/-- A key agrees with an observation, field by field (R30). -/
theorem keyMatches_iff (k : Key) (o : Observation) :
    keyMatches k o = true ↔ (∀ v, k.width = some v → v = o.width) ∧ (∀ v, k.height = some v → v = o.height)
      ∧ (∀ v, k.format = some v → v = o.format) ∧ (∀ v, k.depth = some v → v = o.depth)
      ∧ (∀ v, k.window = some v → v.1 ≤ o.ls ∧ o.ls ≤ v.2) ∧ (∀ v, k.vrr = some v → v = o.vrr) := by
  simp only [keyMatches, Bool.and_eq_true, agrees_iff, and_assoc]
  cases k.window <;> simp

theorem recordMatches_iff (o : Observation) (r : ModeRecord) :
    recordMatches o r = true ↔ r.state ≠ .free ∧ ∃ c, r.content = some c ∧ KeyAgrees o c.key := by
  have hstored : recordMatches o r = true ↔ ∃ c, r.stored = some c ∧ KeyAgrees o c.key := by
    cases hs : r.stored with
    | none => simp [recordMatches, hs]
    | some c => simp [recordMatches, hs, KeyAgrees, keyMatches_iff]
  rw [hstored]
  simp only [stored_eq_some_iff, and_assoc, exists_and_left]

theorem specificity_eq (k : Key) : specificity k = keyCount k := by
  simp only [specificity, keyCount]
  cases k.width <;> cases k.height <;> cases k.format <;> cases k.depth <;> cases k.window <;> cases k.vrr <;> rfl

theorem specificity_le (k : Key) : specificity k ≤ 6 := by
  rw [specificity_eq]
  exact List.count_le_length

/-- The specificity of a record that matches. -/
theorem recordSpecificity_of_content {r : ModeRecord} {c : Content} (hs : r.state ≠ .free) (hc : r.content = some c) :
    recordSpecificity r = some (specificity c.key) := by
  rw [recordSpecificity, stored_of_not_free hs, hc]
  rfl

theorem mem_candidates_iff (cat : List ModeRecord) (o : Observation) (i : Nat) :
    i ∈ candidates cat o ↔ i < 48 ∧ recordMatches o (cat.getD i .free) = true := by
  simp only [candidates, List.mem_flatMap, List.mem_filter, List.mem_range, Bool.and_eq_true, beq_iff_eq]
  constructor
  · rintro ⟨n, -, hi, hm, -⟩
    exact ⟨hi, hm⟩
  · rintro ⟨hi, hm⟩
    obtain ⟨hs, c, hc, -⟩ := (recordMatches_iff o _).mp hm
    have hle := specificity_le c.key
    refine ⟨specificity c.key, ?_, hi, hm, recordSpecificity_of_content hs hc⟩
    interval_cases specificity c.key <;> simp

theorem candidateRules : CandidateRules := by
  intro cat o content count
  refine ⟨fun i => by rw [mem_candidates_iff, recordMatches_iff], ?_⟩
  have hcount (i n : Nat) (h : recordSpecificity (cat.getD i .free) = some n) : count i = n := by
    simp only [recordSpecificity, Option.map_eq_some_iff] at h
    obtain ⟨c, hc, rfl⟩ := h
    have hcontent : content i = some c := (stored_eq_some_iff.mp hc).2
    simp only [count, hcontent, specificity_eq]
    rfl
  rw [candidates, List.pairwise_flatMap]
  refine ⟨fun n _ => ?_, ?_⟩
  · refine (List.pairwise_lt_range.filter _).imp_of_mem fun {a b} ha hb hab => .inr ⟨?_, hab⟩
    simp only [List.mem_filter, Bool.and_eq_true, beq_iff_eq] at ha hb
    rw [hcount a n ha.2.2, hcount b n hb.2.2]
  · have hdesc : [6, 5, 4, 3, 2, 1, 0].Pairwise (fun a b : Nat => b < a) := by decide
    refine hdesc.imp fun {n m} hnm a ha b hb => .inl ?_
    simp only [List.mem_filter, Bool.and_eq_true, beq_iff_eq] at ha hb
    rw [hcount a n ha.2.2, hcount b m hb.2.2]
    exact hnm

/-! ### The candidates passed over -/

/-- One candidate taken by the lookup and found unfit is marked so; one that fits is left (R33). -/
def markOne (o : Observation) (a : State) (i : Nat) : State :=
  match planSlot i o a with
  | .unfit reason => markUnfit i reason a
  | .fit _ => a

/-- Several candidates marked one after another. -/
def markMany (o : Observation) (l : List Nat) (s : State) : State := l.foldl (markOne o) s

theorem markOne_of_unfit {o : Observation} {s : State} {i : Nat} {reason : UnfitReason}
    (h : planSlot i o s = .unfit reason) : markOne o s i = markUnfit i reason s := by
  simp only [markOne, h]

/-- A mark leaves each slot's state, content and lock, so every planning comes out as before. -/
theorem planSlot_markUnfit (i j : Nat) (reason : UnfitReason) (o : Observation) (s : State) :
    planSlot j o (markUnfit i reason s) = planSlot j o s := by
  have hstored : (recordAt (markUnfit i reason s) j).stored = (recordAt s j).stored := by
    rw [markUnfit, recordAt_setRecord]
    split
    · next h => rw [h.1]; rfl
    · rfl
  rw [planSlot, planSlot, hstored]
  rfl

theorem lookupOver_append {o : Observation} {before : List Nat} (rest : List Nat) {s : State}
    (h : ∀ i ∈ before, ∃ reason, planSlot i o s = .unfit reason) :
    lookupOver o (before ++ rest) s = lookupOver o rest (markMany o before s) := by
  induction before generalizing s with
  | nil => rfl
  | cons i before ih =>
    obtain ⟨reason, hreason⟩ := h i List.mem_cons_self
    have hmore (j : Nat) (hj : j ∈ before) : ∃ r, planSlot j o (markUnfit i reason s) = .unfit r := by
      rw [planSlot_markUnfit]
      exact h j (List.mem_cons_of_mem i hj)
    rw [List.cons_append, lookupOver, hreason, markMany, List.foldl_cons, markOne_of_unfit hreason]
    exact ih hmore

theorem recordAt_markUnfit {i : Nat} {reason : UnfitReason} {s : State} (hi : i < s.cat.length) (j : Nat) :
    recordAt (markUnfit i reason s) j = if j = i then { recordAt s i with fit := .unfit reason } else recordAt s j := by
  rw [markUnfit, recordAt_setRecord]
  simp [hi]

theorem planSlot_markMany {o : Observation} {l : List Nat} {s : State}
    (h : ∀ i ∈ l, ∃ reason, planSlot i o s = .unfit reason)
    (j : Nat) : planSlot j o (markMany o l s) = planSlot j o s := by
  induction l generalizing s with
  | nil => rfl
  | cons i l ih =>
    obtain ⟨reason, hreason⟩ := h i List.mem_cons_self
    have hmany : markMany o (i :: l) s = markMany o l (markUnfit i reason s) := by
      rw [markMany, List.foldl_cons, markOne_of_unfit hreason]
      rfl
    rw [hmany, ih fun k hk => by rw [planSlot_markUnfit]; exact h k (List.mem_cons_of_mem i hk), planSlot_markUnfit]

/-- What marking the unfit leaves: the records marked, each with its reason, and nothing else. -/
theorem markMany_spec {o : Observation} {l : List Nat} {s : State} (h : ∀ i ∈ l, ∃ reason, planSlot i o s = .unfit reason)
    (hl : ∀ i ∈ l, i < s.cat.length) :
    (∃ cat, markMany o l s = { s with cat := cat } ∧ cat.length = s.cat.length)
    ∧ (∀ i reason, i ∈ l → planSlot i o s = .unfit reason →
        recordAt (markMany o l s) i = { recordAt s i with fit := .unfit reason })
    ∧ ∀ i, i ∉ l → recordAt (markMany o l s) i = recordAt s i := by
  induction l generalizing s with
  | nil => exact ⟨⟨s.cat, rfl, rfl⟩, nofun, fun _ _ => rfl⟩
  | cons i l ih =>
    obtain ⟨reason, hreason⟩ := h i List.mem_cons_self
    have hmany : markMany o (i :: l) s = markMany o l (markUnfit i reason s) := by
      rw [markMany, List.foldl_cons, markOne_of_unfit hreason]
      rfl
    have hmark := recordAt_markUnfit (reason := reason) (hl i List.mem_cons_self)
    have hlength : (markUnfit i reason s).cat.length = s.cat.length := by simp [markUnfit, setRecord]
    obtain ⟨⟨cat, hcat, hcatlen⟩, hmarked, hother⟩ := ih (s := markUnfit i reason s)
      (fun j hj => by rw [planSlot_markUnfit]; exact h j (List.mem_cons_of_mem i hj))
      (fun j hj => by rw [hlength]; exact hl j (List.mem_cons_of_mem i hj))
    refine ⟨⟨cat, by rw [hmany, hcat]; rfl, hcatlen.trans hlength⟩, fun j r hj hr => ?_, fun j hj => ?_⟩
    · rw [hmany]
      by_cases hmem : j ∈ l
      · rw [hmarked j r hmem (by rwa [planSlot_markUnfit]), hmark]
        split
        · next heq => rw [heq]
        · rfl
      · obtain rfl : j = i := (List.mem_cons.mp hj).resolve_right hmem
        obtain rfl : reason = r := PlanResult.unfit.inj (hreason.symm.trans hr)
        rw [hother j hmem, hmark, if_pos rfl]
    · simp only [List.mem_cons, not_or] at hj
      rw [hmany, hother j hj.2, hmark, if_neg hj.1]

/-! ### The activation -/

/-- The port's current profile after a switch request is the one requested (R118). -/
theorem requestSwitch_current (p : Nat) (s : State) : (requestSwitch p s).panel.current = some p := by
  rcases s with ⟨_, _, _, _, _, ⟨_, _, _, _, _, pending, _, _, _, _, _, _, _, _⟩, _,
    ⟨_, st, _, ph, _, _, _, _, _, _, _⟩, _, _, _, _⟩
  cases ph <;> cases st <;> cases pending <;> rfl

/-- An activation's part in the pacer and the port (R34, R75). -/
theorem pacerActivate_spec (plan : Plan) (s : State) :
    (pacerActivate plan s).pacer.state = .live ∧ (pacerActivate plan s).pacer.holdTimer = .stopped
      ∧ (pacerActivate plan s).panel.current = some plan.profile
      ∧ (s.panel.current = some plan.profile →
          pacerActivate plan s = { s with pacer := { s.pacer with state := .live, holdTimer := .stopped } }) := by
  rw [pacerActivate]
  by_cases h : s.panel.current = some plan.profile
  · rw [if_pos h]
    exact ⟨rfl, rfl, h, fun _ => rfl⟩
  · rw [if_neg h]
    refine ⟨by rw [requestSwitch_pacer]; rfl, by rw [requestSwitch_pacer]; rfl, requestSwitch_current _ _,
      fun h' => absurd h' h⟩

/-- An activation but for the catalogue. -/
theorem exists_activate {slot : Nat} {plan : Plan} {s a : State} {cat : List ModeRecord} (h : a = { s with cat := cat }) :
    ∃ cat', activate slot plan a = flagged 3 (pacerActivate plan { s with cat := cat', plan := some plan }) := by
  subst h
  exact ⟨_, rfl⟩

theorem recordAt_activate {slot : Nat} {plan : Plan} {s : State} (hslot : slot < s.cat.length) (i : Nat) :
    recordAt (activate slot plan s) i = if i = slot then
        { recordAt s slot with
          state := .active, fit := .fit plan
          stats := { (recordAt s slot).stats with activations := more (recordAt s slot).stats.activations } }
      else recordAt s i := by
  have hcat : recordAt (activate slot plan s) i = recordAt (setRecord slot { recordAt s slot with
        state := .active, fit := .fit plan, stats := (recordAt s slot).stats.addActivation } s) i := by
    simp [activate, recordAt]
  rw [hcat, recordAt_setRecord]
  simp only [hslot, and_true]
  rfl

/-! ### The lookup -/

theorem lookupRuns_iff (s : State) :
    lookupRuns s = true ↔ s.mon.state = .settled ∧ (s.pacer.state = .freeRun ∨ s.pacer.state = .hold)
      ∧ ∀ r ∈ s.cat, r.state ≠ .active := by
  simp only [lookupRuns, Bool.and_eq_true, decide_eq_true_eq, activeSlot_isNone_iff, and_assoc]

theorem requestLookup_of_runs {s : State} (hmon : s.mon.state = .settled)
    (hpacer : s.pacer.state = .freeRun ∨ s.pacer.state = .hold) (hnone : ∀ r ∈ s.cat, r.state ≠ .active) :
    requestLookup s = runLookup s := if_pos ((lookupRuns_iff s).mpr ⟨hmon, hpacer, hnone⟩)

theorem runLookup_of_none {s : State} (h : candidates s.cat s.mon.obs = []) : runLookup s = flagged 4 s := by
  simp only [runLookup, h]
  rfl

theorem runLookup_of_some {s : State} (h : candidates s.cat s.mon.obs ≠ []) :
    runLookup s = lookupOver s.mon.obs (candidates s.cat s.mon.obs) s := by
  rw [runLookup]
  split
  · next hnil => exact absurd hnil h
  · next hcons => rw [hcons]

/-- A lookup that finds a fit activates it, the candidates before it having been marked. -/
theorem runLookup_of_fit {s : State} {before after : List Nat} {slot : Nat} {plan : Plan}
    (hcs : candidates s.cat s.mon.obs = before ++ slot :: after)
    (hbefore : ∀ i ∈ before, ∃ reason, planSlot i s.mon.obs s = .unfit reason)
    (hfit : planSlot slot s.mon.obs s = .fit plan) :
    runLookup s = activate slot plan (markMany s.mon.obs before s) := by
  rw [runLookup_of_some (by simp [hcs]), hcs, lookupOver_append _ hbefore, lookupOver, planSlot_markMany hbefore, hfit]

/-- Settles O49: by induction over the candidates before the one that fits. -/
theorem lookupActivatesTheFirstThatFits : Obligations.LookupActivatesTheFirstThatFits := by
  refine ⟨candidateRules, fun s => ⟨fun hno => ?_, fun hmon hpacer hnone hlength => ?_⟩⟩
  · exact requestLookup_of_not_runs (Bool.eq_false_iff.mpr fun h => hno ((lookupRuns_iff s).mp h))
  · intro cs
    have hin (i : Nat) (hi : i ∈ cs) : i < s.cat.length := by
      rw [hlength]
      exact ((mem_candidates_iff s.cat s.mon.obs i).mp hi).1
    rw [requestLookup_of_runs hmon hpacer hnone]
    refine ⟨runLookup_of_none, fun hne hunfit => ?_, fun before slot after plan hcs hbefore hfit => ?_⟩
    · have hlook : runLookup s = flagged 5 (markMany s.mon.obs cs s) := by
        rw [runLookup_of_some hne]
        exact (congrArg (lookupOver s.mon.obs · s) (List.append_nil cs).symm).trans (lookupOver_append [] hunfit)
      obtain ⟨⟨cat, hcat, -⟩, hmarked, hother⟩ := markMany_spec hunfit hin
      rw [hlook]
      refine ⟨?_, hmarked, hother, ?_⟩
      · rw [hcat]
        rfl
      · rw [hcat]
        rfl
    · intro s'
      have hinBefore (i : Nat) (hi : i ∈ before) : i < s.cat.length := hin i (by simp [hcs, hi])
      have hnew (i : Nat) (hi : i ∈ before) : i ≠ slot := by
        rintro rfl
        obtain ⟨reason, hreason⟩ := hbefore i hi
        rw [hfit] at hreason
        cases hreason
      obtain ⟨⟨cat, hcat, hcatlen⟩, hmarked, hother⟩ := markMany_spec hbefore hinBefore
      have hs' : s' = activate slot plan (markMany s.mon.obs before s) := runLookup_of_fit hcs hbefore hfit
      have hslot : slot < (markMany s.mon.obs before s).cat.length := by
        rw [hcat]
        exact hcatlen ▸ hin slot (by simp [hcs])
      have hrecord := recordAt_activate (plan := plan) hslot
      obtain ⟨cat', hact⟩ := exists_activate (slot := slot) (plan := plan) hcat
      obtain ⟨hlive, hhold, hcurrent, hsame⟩ := pacerActivate_spec plan { s with cat := cat', plan := some plan }
      have hend : s' = flagged 3 (pacerActivate plan { s with cat := cat', plan := some plan }) := hs'.trans hact
      have hslotAt : recordAt (markMany s.mon.obs before s) slot = recordAt s slot :=
        hother slot fun hmem => hnew slot hmem rfl
      refine ⟨?_, fun i reason hi hr => ?_, fun i hi => ?_, ?_, planSlot_slot hfit, ?_, ?_, ?_, ?_, fun hc => ?_, ?_⟩
      · rw [hs', hrecord, if_pos rfl, hslotAt]
      · rw [hs', hrecord, if_neg (hnew i hi), hmarked i reason hi hr]
      · simp only [List.mem_cons, not_or] at hi
        rw [hs', hrecord, if_neg hi.1, hother i hi.2]
      · rw [hend]
        simp [flagged]
      · rw [hend]
        exact hlive
      · rw [hend]
        exact hhold
      · have hev : (pacerActivate plan { s with cat := cat', plan := some plan }).ev = s.ev := by simp
        rw [hend]
        exact congrArg (fun e => e.flags ||| 0x0008#16) hev
      · rw [hend]
        exact hcurrent
      · rw [hend, hsame hc]
        exact ⟨rfl, rfl⟩
      · rw [hend]
        simp [flagged]

end Sys2Proof.Proofs.Lookup
end

section
/-! PROOFS. An application of the staged edits (O51). -/

namespace Sys2Proof.Proofs.Applications

open Sys2Proof Sys2Proof.Machine Sys2Proof.Cert Sys2Proof.Proofs.Basics

/-! ### One edit -/

/-- What the model looks at to call an edit visible is the window it names, before and after it (R130). -/
theorem editVisible_iff (e : Edit) (s : State) : editVisible e s (applyEdit e s) = true ↔ shows e s := by
  cases e <;> simp [editVisible, Edit.window, shows]

theorem slot_isSome_iff (e : Edit) : e.slot.isSome = true ↔ ∃ slot, ofSlot e slot := by
  cases e <;> simp [Edit.slot, ofSlot]

theorem editsActive_iff (e : Edit) (s : State) :
    editsActive e s = true ↔ ∃ slot, ofSlot e slot ∧ (recordAt s slot).state = .active := by
  cases e <;> simp [editsActive, Edit.slot, ofSlot]

/-! ### The list -/

/-- The state an application's edits leave, and what its closing steps know of them. -/
theorem take_foldl (edits : List Edit) (a : Application) :
    (edits.foldl Application.take a).st = edits.foldl (fun x e => applyEdit e x) a.st
    ∧ ((edits.foldl Application.take a).visible = true ↔ a.visible = true ∨ Some_ shows edits a.st)
    ∧ ((edits.foldl Application.take a).catalogue = true ↔
        a.catalogue = true ∨ Some_ (fun e _ => ∃ slot, ofSlot e slot) edits a.st)
    ∧ ((edits.foldl Application.take a).active = true ↔
        a.active = true ∨ Some_ (fun e x => ∃ slot, ofSlot e slot ∧ (recordAt x slot).state = .active) edits a.st) := by
  induction edits generalizing a with
  | nil => simp [Some_]
  | cons e edits ih =>
    obtain ⟨hst, hvisible, hcatalogue, hactive⟩ := ih (a.take e)
    simp only [List.foldl_cons, Some_]
    refine ⟨hst, hvisible.trans ?_, hcatalogue.trans ?_, hactive.trans ?_⟩
    · simp only [Application.take, Bool.or_eq_true, editVisible_iff, or_assoc]
    · simp only [Application.take, Bool.or_eq_true, slot_isSome_iff, or_assoc]
    · simp only [Application.take, Bool.or_eq_true, editsActive_iff, or_assoc]

/-- What the edits of a list leave, each carried out on what those before it left (R149). -/
def editsDone (edits : List Edit) (s : State) : State := edits.foldl (fun a e => applyEdit e a) s

theorem editsDone_frame (edits : List Edit) (s : State) :
    (editsDone edits s).mon = s.mon ∧ (editsDone edits s).stage = s.stage ∧ (editsDone edits s).ctl = s.ctl
      ∧ (editsDone edits s).ev.mask = s.ev.mask := by
  induction edits generalizing s with
  | nil => exact ⟨rfl, rfl, rfl, rfl⟩
  | cons e edits ih =>
    obtain ⟨hmon, hstage, hctl, hmask⟩ := ih (applyEdit e s)
    simp only [applyEdit_frame] at hmon hstage hctl hmask
    exact ⟨hmon, hstage, hctl, hmask⟩

/-- The edits done and the list emptied. -/
def stageLeft (edits : List Edit) (s : State) : State :=
  { editsDone edits s with stage := { s.stage with edits := [] } }

/-- An application's closing steps, by what its edits were (R150 to R152). -/
theorem applyList_eq (edits : List Edit) (s : State) :
    ∃ visible catalogue active, (visible = true ↔ Some_ shows edits s)
      ∧ (catalogue = true ↔ Some_ (fun e _ => ∃ slot, ofSlot e slot) edits s)
      ∧ (active = true ↔ Some_ (fun e x => ∃ slot, ofSlot e slot ∧ (recordAt x slot).state = .active) edits s)
      ∧ applyList edits s
        = flagged 6 (stageLookup catalogue active (holdExitReport visible (stageLeft edits s))) := by
  obtain ⟨hst, hvisible, hcatalogue, hactive⟩ :=
    take_foldl edits { st := s, visible := false, catalogue := false, active := false }
  refine ⟨_, _, _, hvisible.trans (by simp), hcatalogue.trans (by simp), hactive.trans (by simp), ?_⟩
  obtain ⟨-, hstage, -, -⟩ := editsDone_frame edits s
  have hleft : emptyStage (edits.foldl Application.take
      { st := s, visible := false, catalogue := false, active := false }).st = stageLeft edits s := by
    rw [hst, emptyStage, show edits.foldl (fun x e => applyEdit e x) s = editsDone edits s from rfl, hstage]
    rfl
  rw [applyList, hleft]
  rfl

/-- The lookup an application asks for (R151). -/
theorem stageLookup_cases {catalogue active : Bool} {x : State} {edited touched : Prop} (hc : catalogue = true ↔ edited)
    (ha : active = true ↔ touched) :
    (edited → x.mon.state = .settled → ((∀ r ∈ x.cat, r.state ≠ .active) ∨ touched) →
      stageLookup catalogue active x = requestLookup x)
    ∧ ((¬edited ∨ x.mon.state ≠ .settled ∨ ((∃ r ∈ x.cat, r.state = .active) ∧ ¬touched)) →
      stageLookup catalogue active x = x) := by
  refine ⟨fun hedited hmon hwhen => ?_, fun hno => ?_⟩
  · exact if_pos ⟨hc.mpr hedited, hmon, hwhen.imp (activeSlot_isNone_iff x).mpr ha.mpr⟩
  · refine if_neg ?_
    rintro ⟨hcat, hmon, hwhen⟩
    obtain hno | hno | ⟨⟨r, hr, hact⟩, hno⟩ := hno
    · exact hno (hc.mp hcat)
    · exact hno hmon
    · obtain hnone | htouched := hwhen
      · exact (activeSlot_isNone_iff x).mp hnone r hr hact
      · exact hno (ha.mp htouched)

theorem holdExitReport_of_hold {visible : Bool} {x : State} (hv : visible = true) (h : x.pacer.state = .hold) :
    holdExitReport visible x = holdToFreeRun x := if_pos ⟨hv, h⟩

theorem holdExitReport_of_not {visible : Bool} {x : State} (h : ¬(visible = true ∧ x.pacer.state = .hold)) :
    holdExitReport visible x = x := if_neg h

/-! ### Some lists -/

theorem holdToFreeRun_mon (s : State) : (holdToFreeRun s).mon = s.mon := by simp

theorem holdToFreeRun_state (s : State) : (flagged 6 (holdToFreeRun s)).pacer.state = .freeRun := rfl

theorem holdToFreeRun_holdTimer (s : State) : (flagged 6 (holdToFreeRun s)).pacer.holdTimer = .stopped := rfl

theorem windowAt_holdToFreeRun (s : State) (win : Nat) :
    windowAt (flagged 6 (holdToFreeRun s)) win = windowAt s win := rfl

theorem stageLeft_windowAt (edits : List Edit) (s : State) (win : Nat) :
    windowAt (stageLeft edits s) win = windowAt (editsDone edits s) win := rfl

theorem not_some_of_forall {p : Edit → State → Prop} {edits : List Edit} (h : ∀ e ∈ edits, ∀ x, ¬p e x) (s : State) :
    ¬Some_ p edits s := by
  induction edits generalizing s with
  | nil => exact id
  | cons e edits ih =>
    rintro (hp | hrest)
    · exact h e List.mem_cons_self s hp
    · exact ih (fun e' he' => h e' (List.mem_cons_of_mem e he')) _ hrest

theorem not_ofSlot_setFill (c : Colour) : ¬∃ slot, ofSlot (.setFill c) slot := by simp [ofSlot]

theorem not_shows_setFill (c : Colour) (s : State) : ¬shows (.setFill c) s := by simp [shows]

/-- Of several SET_FILL edits the last stands (R121). -/
theorem editsDone_setFill (before : List Colour) (colour : Colour) (s : State) :
    editsDone ((before ++ [colour]).map Edit.setFill) s = { s with panel := { s.panel with fill := colour } } := by
  induction before generalizing s with
  | nil => rfl
  | cons c before ih => exact ih (applyFill c s)

/-- An application of other than catalogue edits asks for no lookup. -/
theorem applyList_of_no_slot {edits : List Edit} (h : ∀ e ∈ edits, ¬∃ slot, ofSlot e slot) (s : State) :
    (¬Some_ shows edits s → applyList edits s = flagged 6 (stageLeft edits s))
    ∧ (Some_ shows edits s → (stageLeft edits s).pacer.state = .hold →
        applyList edits s = flagged 6 (holdToFreeRun (stageLeft edits s))) := by
  obtain ⟨visible, catalogue, active, hv, hc, ha, happly⟩ := applyList_eq edits s
  have hno : ¬Some_ (fun e _ => ∃ slot, ofSlot e slot) edits s := not_some_of_forall (fun e he _ => h e he) s
  refine ⟨fun hshows => ?_, fun hshows hhold => ?_⟩
  · rw [happly, holdExitReport_of_not fun hx => hshows (hv.mp hx.1), (stageLookup_cases hc ha).2 (.inl hno)]
  · rw [happly, holdExitReport_of_hold (hv.mpr hshows) hhold, (stageLookup_cases hc ha).2 (.inl hno)]

/-- Settles O51: what the edits leave, and then the three closing steps. -/
theorem applicationsTakeTheListInOrder : Obligations.ApplicationsTakeTheListInOrder := by
  refine ⟨?_, fun before colour s => ?_, fun win s hhold hhidden hwin => ?_⟩
  · intro edits s done left visible lookedUp passed
    obtain ⟨v, catalogue, active, hv, hc, ha, happly⟩ := applyList_eq edits s
    obtain ⟨hmon, hstage, hctl, hmask⟩ := editsDone_frame edits s
    have hcases (x : State) (hx : holdExitReport v left = x) (hxmon : x.mon = s.mon) : lookedUp x ∧ passed x := by
      obtain ⟨hlooked, hpassed⟩ := stageLookup_cases (x := x) hc ha
      rw [hxmon] at hlooked hpassed
      rw [show stageLeft edits s = left from rfl, hx] at happly
      exact ⟨fun hedited hsettled hwhen => by rw [happly, hlooked hedited hsettled hwhen],
        fun hno => by rw [happly, hpassed hno]⟩
    refine ⟨fun hvis hst => hcases _ (holdExitReport_of_hold (hv.mpr hvis) hst) ((holdToFreeRun_mon left).trans hmon),
      fun hnot => ?_, ?_, ?_, ?_, ?_⟩
    · refine hcases _ (holdExitReport_of_not ?_) hmon
      rintro ⟨hvis, hst⟩
      exact hnot.elim (fun h => h (hv.mp hvis)) fun h => h hst
    · rw [happly]
      simp [flagged, stageLeft]
    · rw [happly]
      simp [flagged]
    · rw [happly]
      simp [flagged, stageLeft, done, editsDone]
    · rw [happly]
      simp [flagged, stageLeft, hmon, hctl, hmask, done]
      rfl
  · have hslot : ∀ e ∈ (before ++ [colour]).map Edit.setFill, ¬∃ slot, ofSlot e slot := by
      intro e he
      obtain ⟨c, -, rfl⟩ := List.mem_map.mp he
      exact not_ofSlot_setFill c
    have hshows : ¬Some_ shows ((before ++ [colour]).map Edit.setFill) s := by
      refine not_some_of_forall (fun e he x => ?_) s
      obtain ⟨c, -, rfl⟩ := List.mem_map.mp he
      exact not_shows_setFill c x
    rw [(applyList_of_no_slot hslot s).1 hshows, stageLeft, editsDone_setFill]
  · have hshow : applyEdit (.winShow win true) s = setWindow win { windowAt s win with state := .shown } s := by
      show applyShow win true s = _
      rw [applyShow, if_neg (by simp [hhidden])]
      rfl
    have hwindow : windowAt (applyEdit (.winShow win true) s) win = { windowAt s win with state := .shown } := by
      rw [hshow, windowAt_setWindow, if_pos ⟨rfl, hwin⟩]
    have hvisible : Some_ shows [.winShow win true] s :=
      .inl ⟨win, .inr (.inr (.inl ⟨true, rfl⟩)), .inr (by rw [hwindow])⟩
    have hslot : ∀ e ∈ [Edit.winShow win true], ¬∃ slot, ofSlot e slot := by simp [ofSlot]
    have hstate : (stageLeft [.winShow win true] s).pacer.state = .hold := by
      show (applyEdit (.winShow win true) s).pacer.state = .hold
      rw [hshow]
      exact hhold
    rw [(applyList_of_no_slot hslot s).2 hvisible hstate]
    refine ⟨holdToFreeRun_state _, holdToFreeRun_holdTimer _, ?_⟩
    rw [windowAt_holdToFreeRun, stageLeft_windowAt]
    exact congrArg Window.state hwindow

end Sys2Proof.Proofs.Applications
end

section
/-! PROOFS. Line starts and frame ends (O38). -/

namespace Sys2Proof.Proofs.LineStarts

open Sys2Proof Sys2Proof.Machine Sys2Proof.Cert Sys2Proof.Proofs.Basics Sys2Proof.Proofs.NoSignal
  Sys2Proof.Proofs.ActiveRecord
  Sys2Proof.Proofs.PacerRequests

/-! ### The monitor's own functions, in the words of the statements -/

theorem watching_iff (s : State) : watching s = true ↔ s.ctl.phase = .ready ∧ s.mon.state ≠ .noSignal := by
  simp [watching]

theorem measured_eq (f : SourceFrame) (o : Observation) : measured f o = takenIn f o := by
  simp only [measured, takenIn, outOfRange, decide_not]

theorem within4_iff (a b : Nat) : within4 a b = true ↔ near a b := by simp [within4, near]

theorem frameAgrees_iff (f : SourceFrame) (o : Observation) :
    frameAgrees (takenIn f o) o = true ↔ (takenIn f o).width = o.width ∧ (takenIn f o).height = o.height
      ∧ f.format = o.format ∧ f.depth = o.depth ∧ f.vrr = o.vrr ∧ near f.ls o.ls := by
  simp only [frameAgrees, Bool.and_eq_true, decide_eq_true_eq, within4_iff, and_assoc]
  rfl

theorem openRef_eq (l : Option SourceLine) : openRef l = awaiting l := by
  cases l <;> rfl

theorem closeStoring_eq (start : Nat) (l : LineStore) :
    closeStoring start l
      = { l with entries := l.entries.map fun e => if e.start = start then { e with storing := false } else e } := by
  simp [closeStoring, mapEntries]

theorem closeLine_of_not_active {l : SourceLine} (h : l.active = false) (f : SourceFrame) : closeLine l f = f := by
  simp [closeLine, h]

theorem closeLine_of_active {l : SourceLine} (h : l.active = true) :
    closeLine l = fun f => if l.inFrame = true then
        (if l.number = 0 then { f with width0 := l.width }
          else { f with regular := f.regular && decide (l.width = f.width0) })
      else f := by
  funext f
  exact if_congr (and_iff_right h) rfl rfl

/-! ### The frame end, by monitor state (R7, R8, R10) -/

/-- The frame being watched ended: it is marked, and storing closes for its entry (R2, R94). -/
def frameEnded (f : SourceFrame) (s : State) : State :=
  { s with
    mon := { s.mon with frame := some { f with ended := true } }
    store := { s.store with entries := s.store.entries.map fun e =>
      if e.start = f.start then { e with storing := false } else e } }

theorem frameEnd_of_none {s : State} (h : s.mon.frame = none) : frameEnd s = s := by simp [frameEnd, h]

theorem frameEnd_of_ended {s : State} {f : SourceFrame} (h : s.mon.frame = some f) (he : f.ended = true) :
    frameEnd s = s := by simp [frameEnd, h, he]

/-- The frame end at a blank line (R2). -/
theorem frameEnd_of_blank {s : State} {l : SourceLine} {f : SourceFrame} (hl : s.mon.line = some l)
    (hl0 : l.active = false) (hf : s.mon.frame = some f) (he : f.ended = false) :
    frameEnd s = frameEndActs f (frameEnded f s) := by
  simp [frameEnd, hf, he, hl, closeOpenLine, closeLine_of_not_active hl0, closeStoring_eq, frameEnded, State.setMon,
    State.setStore]

theorem frameEndActs_of_measuring {f : SourceFrame} {s : State} (h : s.mon.state = .measuring) :
    frameEndActs f s = if f.regular then setMonState .candidate (takeIn f s) else clearPeriods s := by
  simp [frameEndActs, h]

theorem frameEndActs_of_candidate {f : SourceFrame} {s : State} (h : s.mon.state = .candidate) :
    frameEndActs f s = candidateEnd f s := by simp [frameEndActs, h]

theorem frameEndActs_of_settled {f : SourceFrame} {s : State} (h : s.mon.state = .settled) :
    frameEndActs f s = if min f.lines 4095 < s.mon.obs.height then candidateEnd f (declareChange s)
      else s.setMon { s.mon with obs := { s.mon.obs with sinceSettle := satAdd 65535 s.mon.obs.sinceSettle 1 } } := by
  simp [frameEndActs, h]

theorem candidateEnd_of_irregular {f : SourceFrame} {s : State} (h : f.regular = false) :
    candidateEnd f s = setMonState .measuring (clearPeriods s) := if_pos h

theorem candidateEnd_of_disagree {f : SourceFrame} {s : State} (h : f.regular = true)
    (ha : ¬frameAgrees (takenIn f s.mon.obs) s.mon.obs = true) : candidateEnd f s = clearPeriods (takeIn f s) := by
  rw [candidateEnd, if_neg (by simp [h]), measured_eq, if_neg ha]

theorem candidateEnd_of_agree {f : SourceFrame} {s : State} (h : f.regular = true)
    (ha : frameAgrees (takenIn f s.mon.obs) s.mon.obs = true) : candidateEnd f s = settle (takeIn f s) := by
  rw [candidateEnd, if_neg (by simp [h]), measured_eq, if_pos ha]

/-! ### Settling (R9, R81) -/

/-- The monitor SETTLED and SETTLED delivered, before anything is told of it (R9). -/
def settledState (s : State) : State :=
  flagged 1 { s with mon := { s.mon with state := .settled, obs := { s.mon.obs with sinceSettle := 0 } } }

theorem lookupRuns_of_rest {s : State} (h : s.pacer.state = .rest) : lookupRuns s = false := by simp [lookupRuns, h]

theorem lookupOver_state (o : Observation) (l : List Nat) (s : State) :
    (lookupOver o l s).pacer.state = s.pacer.state ∨ (lookupOver o l s).pacer.state = .live := by
  induction l generalizing s with
  | nil => exact .inl rfl
  | cons i l ih =>
    unfold lookupOver
    split
    · exact .inr (pacerActivate_state _ _)
    · simpa using ih (markUnfit i _ s)

/-- A lookup leaves the pacer in its state or in LIVE (R32, R33). -/
theorem requestLookup_state (s : State) :
    (requestLookup s).pacer.state = s.pacer.state ∨ (requestLookup s).pacer.state = .live := by
  unfold requestLookup runLookup
  split
  · split
    · exact .inl rfl
    · exact lookupOver_state _ _ s
  · exact .inl rfl

theorem settle_of_not_rest {s : State} (h : s.pacer.state ≠ .rest) : settle s = requestLookup (settledState s) := by
  refine if_neg fun ⟨hrest, _⟩ => ?_
  obtain hs | hs := requestLookup_state (settledState s)
  · exact h (hs.symm.trans hrest)
  · exact PacerState.noConfusion (hs.symm.trans hrest)

/-- The pacer out of REST, before the lookup that follows (R80, R81). -/
theorem leaveRest_eq (s : State) :
    leaveRest s = requestLookup { s with pacer := { s.pacer with
      state := .freeRun
      restTimer := s.pacer.loadedRest
      schedule := if s.pacer.tracking = .noSwitch then
          [{ time := max s.now (periodAfterLast s), reason := .periodic, kind := .generated }] else [] } } := rfl

theorem settle_of_rest {s : State} (h : s.pacer.state = .rest) :
    settle s = if s.pacer.wakeOnSource = true ∧ (currentProfile s).valid = true then leaveRest (settledState s)
      else settledState s := by
  have hsame : requestLookup (settledState s) = settledState s :=
    requestLookup_of_not_runs (lookupRuns_of_rest (s := settledState s) h)
  have hsettle : settle s = if (requestLookup (settledState s)).pacer.state = .rest
      ∧ (requestLookup (settledState s)).pacer.wakeOnSource = true
      ∧ (currentProfile (requestLookup (settledState s))).valid = true then leaveRest (requestLookup (settledState s))
      else requestLookup (settledState s) := rfl
  rw [hsettle, hsame]
  exact if_congr (and_iff_right h) rfl rfl

/-! ### The line start (R2) -/

/-- A fresh line, and the lines that await their line complete (R2). -/
def lineBegun (awaited : List LineRef) (s : State) : State :=
  { s with mon := { s.mon with line := some freshLine, uncompleted := awaited } }

theorem candidateEnd_uncompleted (f : SourceFrame) (s : State) :
    (candidateEnd f s).mon.uncompleted = s.mon.uncompleted := by
  unfold candidateEnd
  (repeat' split) <;> simp [settle_mon, setMonState, clearPeriods, takeIn]

theorem frameEndActs_uncompleted (f : SourceFrame) (s : State) :
    (frameEndActs f s).mon.uncompleted = s.mon.uncompleted := by
  unfold frameEndActs
  (repeat' split) <;> simp [candidateEnd_uncompleted, declareChange_mon, setMonState, clearPeriods, takeIn]

theorem frameEnd_uncompleted (s : State) : (frameEnd s).mon.uncompleted = s.mon.uncompleted := by
  unfold frameEnd
  (repeat' split) <;> simp [frameEndActs_uncompleted]

theorem closeAtLineStart_uncompleted (l : SourceLine) (s : State) :
    (closeAtLineStart l s).mon.uncompleted = s.mon.uncompleted := by
  unfold closeAtLineStart
  split
  · dsimp only
    split <;> simp [declareChange_mon]
  · split
    · split <;> simp [frameEnd_uncompleted]
    · rfl

theorem lineStart_of_not_watching {s : State} (h : s.ctl.phase = .starting ∨ s.mon.state = .noSignal) :
    lineStart s = s := by
  refine if_neg fun hw => ?_
  obtain ⟨hphase, hmon⟩ := (watching_iff s).mp hw
  obtain h | h := h
  · exact PortPhase.noConfusion (hphase.symm.trans h)
  · exact hmon h

theorem lineStart_of_none {s : State} (hw : watching s = true) (hl : s.mon.line = none) :
    lineStart s = lineBegun (s.mon.uncompleted ++ awaiting s.mon.line) s := by
  simp [lineStart, hw, hl, openRef, awaiting, lineBegun, State.setMon, SourceLine.fresh, freshLine]

theorem lineStart_of_some {s : State} {l : SourceLine} (hw : watching s = true) (hl : s.mon.line = some l) :
    lineStart s = lineBegun (s.mon.uncompleted ++ awaiting s.mon.line) (closeAtLineStart l s) := by
  rw [lineStart, if_pos hw]
  simp only [hl]
  rw [closeAtLineStart_uncompleted, openRef_eq]
  rfl

/-- A line with active data closed into its frame (R3). -/
def lineClosed (l : SourceLine) (s : State) : State :=
  { s with mon := { s.mon with frame := s.mon.frame.map (closeLine l), line := none } }

theorem closeAtLineStart_of_active {s : State} {l : SourceLine} (hl : l.active = true) :
    closeAtLineStart l s = if s.mon.state = .settled ∧ l.width < s.mon.obs.width then declareChange (lineClosed l s)
      else lineClosed l s := if_pos hl

theorem closeAtLineStart_of_blank {s : State} {l : SourceLine} {f : SourceFrame} (hl : l.active = false)
    (hf : s.mon.frame = some f) : closeAtLineStart l s = if 0 < f.lines then frameEnd s else s := by
  rw [closeAtLineStart, if_neg (by simp [hl])]
  simp only [hf]

theorem closeAtLineStart_of_no_frame {s : State} {l : SourceLine} (hl : l.active = false)
    (hf : s.mon.frame = none) : closeAtLineStart l s = s := by
  rw [closeAtLineStart, if_neg (by simp [hl])]
  simp only [hf]

theorem exec_lineStart (t : Nat) (s : State) : exec (.lineStart t) s = .next (settlePacer (lineStart (tick t s))) := rfl

/-- Settles O38: by the line in progress, and at a frame end by the monitor's state. -/
theorem lineStartAndFrameEnd : Obligations.LineStartAndFrameEnd := by
  intro t s
  refine ⟨fun h => ?_, fun hphase hmon => ?_⟩
  · rw [exec_lineStart, lineStart_of_not_watching (s := tick t s) h]
    rfl
  · intro s1 begun
    have hw : watching s1 = true := (watching_iff s1).mpr ⟨hphase, hmon⟩
    have hstart {l : SourceLine} {x : State} (hl : s.mon.line = some l) (hx : closeAtLineStart l s1 = x) :
        exec (.lineStart t) s = .next (settlePacer (begun x)) := by
      rw [exec_lineStart, lineStart_of_some (s := tick t s) hw hl, ← hx]
      rfl
    refine ⟨fun hl => ?_, fun l hl hact hno => ?_, fun l hl hact hframe => hstart hl ?_,
      fun l f hl hact hf hlines hended => ?_⟩
    · rw [exec_lineStart, lineStart_of_none (s := tick t s) hw hl]
      rfl
    · rw [hstart hl ((closeAtLineStart_of_active hact).trans (if_neg hno)), lineClosed, closeLine_of_active hact]
      rfl
    · obtain hf | ⟨f, hf, hf'⟩ := hframe
      · exact closeAtLineStart_of_no_frame hact hf
      · rw [closeAtLineStart_of_blank (s := s1) hact hf]
        obtain hlines | hended := hf'
        · exact if_neg (by omega)
        · rw [frameEnd_of_ended (s := s1) hf hended, ite_self]
    · intro m agrees ended
      have hclose : closeAtLineStart l s1 = frameEndActs f (frameEnded f s1) := by
        rw [closeAtLineStart_of_blank (s := s1) hact hf, if_pos hlines, frameEnd_of_blank (s := s1) hl hact hf hended]
      have hagrees : frameAgrees (takenIn f s.mon.obs) s.mon.obs = true ↔ agrees := frameAgrees_iff f s.mon.obs
      have hmeasuring (h : s.mon.state = .measuring) :=
        hclose.trans (frameEndActs_of_measuring (f := f) (s := frameEnded f s1) h)
      have hcandidate (h : s.mon.state = .candidate) :=
        hclose.trans (frameEndActs_of_candidate (f := f) (s := frameEnded f s1) h)
      have hagree (hreg : f.regular = true) (h : agrees) :=
        candidateEnd_of_agree (s := frameEnded f s1) hreg (hagrees.mpr h)
      refine ⟨fun hst hreg => ?_, fun hst hreg => ?_, fun hst hreg => ?_, fun hst hreg hno => ?_,
        fun hst hreg hag hrest => ?_, fun hst hreg hag hrest => ?_, fun hst hheight => ?_⟩
      · rw [hstart hl ((hmeasuring hst).trans (if_pos hreg)), takeIn, measured_eq]
        rfl
      · rw [hstart hl ((hmeasuring hst).trans (if_neg (ne_true_of_eq_false hreg)))]
        rfl
      · rw [hstart hl ((hcandidate hst).trans (candidateEnd_of_irregular hreg))]
        rfl
      · rw [hstart hl ((hcandidate hst).trans
          (candidateEnd_of_disagree (s := frameEnded f s1) hreg (mt hagrees.mp hno))), takeIn, measured_eq]
        rfl
      · rw [hstart hl ((hcandidate hst).trans ((hagree hreg hag).trans
          (settle_of_not_rest (s := takeIn f (frameEnded f s1)) hrest))), takeIn, measured_eq]
        rfl
      · intro settled
        have hsettle : closeAtLineStart l s1
            = if s.pacer.wakeOnSource = true ∧ (currentProfile s).valid = true then leaveRest settled else settled := by
          refine (hcandidate hst).trans ((hagree hreg hag).trans
            ((settle_of_rest (s := takeIn f (frameEnded f s1)) hrest).trans ?_))
          rw [takeIn, measured_eq]
          rfl
        refine ⟨fun hwake hvalid => ?_, fun hno => hstart hl (hsettle.trans (if_neg ?_))⟩
        · rw [hstart hl (hsettle.trans (if_pos ⟨hwake, hvalid⟩)), leaveRest_eq, max_now_periodAfterLast]
          rfl
        · rintro ⟨hwake, hvalid⟩
          simp [hwake, hvalid] at hno
      · rw [hstart hl (hclose.trans ((frameEndActs_of_settled (s := frameEnded f s1) hst).trans
          (if_neg (Nat.not_lt.mpr hheight))))]
        rfl

end Sys2Proof.Proofs.LineStarts
end

section
/-! PROOFS. A change in SETTLED (O41). -/

namespace Sys2Proof.Proofs.Changes

open Sys2Proof Sys2Proof.Machine Sys2Proof.Cert Sys2Proof.Proofs.Basics Sys2Proof.Proofs.NoSignal
  Sys2Proof.Proofs.ActiveRecord Sys2Proof.Proofs.ActiveRecordKept Sys2Proof.Proofs.LineStarts

/-- Where a step leaves a state that is not SETTLED, no record is ACTIVE (R35). -/
theorem noneActive_of_exec {c : Instr} {s s' : State} (h : s.ActiveLaw) (hc : exec c s = .next s')
    (hs : s'.mon.state ≠ .settled) : NoneActive s' :=
  noneActive_of_states (activeLaw_exec h hc) (.inr hs)

/-- What a change leaves of the monitor (R11). -/
def ChangeSeen (s s' : State) : Prop :=
  s'.mon.state = .candidate ∧ s'.mon.periods = [] ∧ s'.mon.obs = s.mon.obs

theorem ChangeSeen.of_same {s s' x' : State} (h : ChangeSeen s s') (hx' : x'.mon = s'.mon) : ChangeSeen s x' := by
  simpa [ChangeSeen, hx'] using h

/-- A change declared once the occasion has been taken in, which keeps the observation. -/
theorem changeSeen_after {s x : State} (hx : x.mon.obs = s.mon.obs) : ChangeSeen s (declareChange x) := by
  simp [ChangeSeen, declareChange_mon, hx]

/-! ### At a line -/

theorem changeSeen_lineStart {s : State} {l : SourceLine} (hw : watching s = true) (hl : s.mon.line = some l)
    (hact : l.active = true) (hst : s.mon.state = .settled) (hwidth : l.width < s.mon.obs.width) :
    ChangeSeen s (lineStart s) := by
  rw [lineStart_of_some hw hl, closeAtLineStart_of_active hact, if_pos ⟨hst, hwidth⟩]
  exact changeSeen_after (x := lineClosed l s) rfl

theorem changeSeen_activeLineChange {i ls : Nat} {s x : State} (hobs : x.mon.obs = s.mon.obs)
    (hst : x.mon.state = .settled) (h : s.mon.obs.height ≤ i ∨ (i = 16 ∧ within4 ls s.mon.obs.ls = false)) :
    ChangeSeen s (activeLineChange i ls x) := by
  rw [← hobs] at h
  rw [activeLineChange, if_pos ⟨hst, h⟩]
  exact changeSeen_after hobs

/-- The active-line start of the next line of a frame (R2, R3). -/
def activeLineBegun (l : SourceLine) (f : SourceFrame) (s : State) : State :=
  { s with mon := { s.mon with
    frame := some (f.beginLine s.now)
    line := some { l with active := true, number := f.lines, frameStart := f.start, inFrame := true } } }

theorem activeLineStart_eq {s : State} {l : SourceLine} {f : SourceFrame} (hw : watching s = true)
    (hl : s.mon.line = some l) (hact : l.active = false) (hf : s.mon.frame = some f) (order : Bool) :
    activeLineStart order s = if order = true then
        activeLineChange f.lines (f.beginLine s.now).ls (storeLineStart f.start f.lines (activeLineBegun l f s))
      else storeLineStart f.start f.lines (activeLineChange f.lines (f.beginLine s.now).ls (activeLineBegun l f s)) := by
  simp only [activeLineStart, hl, hf]
  exact if_pos ⟨hw, hact⟩

theorem changeSeen_activeLineStart {s : State} {l : SourceLine} {f : SourceFrame} (hw : watching s = true)
    (hl : s.mon.line = some l) (hact : l.active = false) (hf : s.mon.frame = some f) (hst : s.mon.state = .settled)
    (h : s.mon.obs.height ≤ f.lines ∨ (f.lines = 16 ∧ within4 (f.beginLine s.now).ls s.mon.obs.ls = false))
    (order : Bool) : ChangeSeen s (activeLineStart order s) := by
  rw [activeLineStart_eq hw hl hact hf]
  split
  · exact changeSeen_activeLineChange (by simp [activeLineBegun]) (by simpa [activeLineBegun] using hst) h
  · exact (changeSeen_activeLineChange (x := activeLineBegun l f s) rfl hst h).of_same (by simp)

/-- A transfer of a line with active data: its pixels stored and counted (R2, R92). -/
def pixelsTaken (l : SourceLine) (ps : List RawPixel) (s : State) : State :=
  { s with
    mon := { s.mon with line := some { l with width := l.width + ps.length } }
    store := if l.complete then s.store else storePixels l.frameStart l.number ps s.store }

theorem pixelTransfer_eq {s : State} {l : SourceLine} (hw : watching s = true) (hl : s.mon.line = some l)
    (hact : l.active = true) (ps : List RawPixel) :
    pixelTransfer ps s = if s.mon.state = .settled ∧ s.mon.obs.width < l.width + ps.length then
        declareChange (pixelsTaken l ps s) else pixelsTaken l ps s := by
  simp only [pixelTransfer, hl]
  rw [if_pos ⟨hw, hact⟩]
  cases hc : l.complete <;> simp [pixelsTaken, hc, State.setMon, State.setStore]

theorem lanePixels_eq (l0 l1 l2 l3 : Option RawPixel) :
    lanePixels l0 l1 l2 l3 = l0.toList ++ l1.toList ++ l2.toList ++ l3.toList := by
  cases l0 <;> cases l1 <;> cases l2 <;> cases l3 <;> rfl

theorem changeSeen_pixelTransfer {s : State} {l : SourceLine} (hw : watching s = true) (hl : s.mon.line = some l)
    (hact : l.active = true) (hst : s.mon.state = .settled) {ps : List RawPixel}
    (hwidth : s.mon.obs.width < l.width + ps.length) : ChangeSeen s (pixelTransfer ps s) := by
  rw [pixelTransfer_eq hw hl hact, if_pos ⟨hst, hwidth⟩]
  exact changeSeen_after (x := pixelsTaken l ps s) rfl

/-! ### At a frame -/

/-- The frame end in SETTLED of a frame of fewer than H_in lines: the change, and then the candidate rule (R8, R11). -/
theorem frameEndActs_of_short {s : State} {f : SourceFrame} (hst : s.mon.state = .settled)
    (hheight : min f.lines 4095 < s.mon.obs.height) :
    (frameEndActs f s).mon.periods = []
    ∧ (frameEndActs f s).mon.state = (if f.regular then .candidate else .measuring)
    ∧ (frameEndActs f s).mon.obs = (if f.regular then takenIn f s.mon.obs else s.mon.obs) := by
  rw [frameEndActs_of_settled hst, if_pos hheight]
  have hobs : (declareChange s).mon.obs = s.mon.obs := by rw [declareChange_mon]
  cases hreg : f.regular with
  | false =>
    rw [candidateEnd_of_irregular hreg]
    simp [setMonState, clearPeriods]
  | true =>
    have hno : ¬frameAgrees (takenIn f (declareChange s).mon.obs) (declareChange s).mon.obs = true := by
      rw [hobs, frameAgrees_iff]
      rintro ⟨-, hsame, -⟩
      exact absurd hsame (Nat.ne_of_lt hheight)
    rw [candidateEnd_of_disagree hreg hno]
    simp [clearPeriods, takeIn, measured_eq, declareChange_mon]

theorem frameStart_of_watching {s : State} (hw : watching s = true) (ok : Bool) (format : Format) (depth : Depth)
    (vrr game : Bool) : frameStart ok format depth vrr game s = acceptFrameStart format depth vrr game s := by
  obtain ⟨hphase, hmon⟩ := (watching_iff s).mp hw
  unfold frameStart
  rw [if_neg (by simp [hphase])]
  cases h : s.mon.state with
  | noSignal => exact absurd h hmon
  | measuring => rfl
  | candidate => rfl
  | settled => rfl

theorem sampleGame_of_same {game : Bool} {s : State} (h : game = s.mon.obs.game) : sampleGame game s = s := if_pos h

theorem changeSeen_frameStart {s : State} {f : SourceFrame} (hw : watching s = true) (hst : s.mon.state = .settled)
    (hf : s.mon.frame = some f) (hended : f.ended = true) {format : Format} {depth : Depth} {vrr : Bool}
    (h : ¬(format = s.mon.obs.format ∧ depth = s.mon.obs.depth ∧ vrr = s.mon.obs.vrr)) (ok : Bool) :
    ChangeSeen s (frameStart ok format depth vrr s.mon.obs.game s) := by
  rw [frameStart_of_watching hw]
  simp only [acceptFrameStart, frameEnd_of_ended hf hended]
  have hsampled : sampleChange format depth vrr (beginSourceFrame format depth vrr s.mon.obs.game (recordPeriod s))
      = declareChange (beginSourceFrame format depth vrr s.mon.obs.game (recordPeriod s)) := if_pos ⟨hst, h⟩
  have hchange : ChangeSeen s (declareChange (beginSourceFrame format depth vrr s.mon.obs.game (recordPeriod s))) :=
    changeSeen_after rfl
  obtain ⟨-, -, hobs⟩ := id hchange
  rw [hsampled, sampleGame_of_same (by rw [hobs])]
  exact hchange.of_same (by simp)

/-- Settles O41: the six occasions of a change, and what each leaves of the monitor. -/
theorem changeEndsThePresentation : Obligations.ChangeEndsThePresentation := by
  intro t s l f hlaw hphase hst hl hf changed
  have hw : watching (tick t s) = true := (watching_iff _).mpr ⟨hphase, by simp [hst]⟩
  have hchanged {c : Instr} {x : State} (hc : exec c s = .next (settlePacer x)) (hx : ChangeSeen s x) : changed c := by
    obtain ⟨hstate, hperiods, hobs⟩ : ChangeSeen s (settlePacer x) := hx.of_same (by simp)
    exact ⟨_, hc, hstate, hperiods, hobs, noneActive_of_exec hlaw hc (by rw [hstate]; exact MonState.noConfusion)⟩
  refine ⟨fun hact hwidth => ?_, fun hact hended hlines hheight => ?_, fun hact hheight order => ?_,
    fun hact hlines hnear order => ?_, fun hact l0 l1 l2 l3 hwidth => ?_, fun hended ok format depth vrr h => ?_⟩
  · exact hchanged rfl (changeSeen_lineStart (s := tick t s) hw hl hact hst hwidth)
  · have hclose : closeAtLineStart l (tick t s) = frameEndActs f (frameEnded f (tick t s)) := by
      rw [closeAtLineStart_of_blank (s := tick t s) hact hf, if_pos hlines,
        frameEnd_of_blank (s := tick t s) hl hact hf hended]
    obtain ⟨hperiods, hstate, hobs⟩ := frameEndActs_of_short (s := frameEnded f (tick t s)) hst hheight
    have hexec : exec (.lineStart t) s = .next (settlePacer (lineBegun (s.mon.uncompleted ++ awaiting s.mon.line)
        (frameEndActs f (frameEnded f (tick t s))))) := by
      rw [exec_lineStart, lineStart_of_some (s := tick t s) hw hl, hclose]
      rfl
    have hmon : (settlePacer (lineBegun (s.mon.uncompleted ++ awaiting s.mon.line)
        (frameEndActs f (frameEnded f (tick t s))))).mon.state = if f.regular then .candidate else .measuring := hstate
    refine ⟨_, hexec, hperiods, noneActive_of_exec hlaw hexec ?_, hstate, hobs⟩
    rw [hmon]
    split <;> exact MonState.noConfusion
  · exact hchanged rfl (changeSeen_activeLineStart (s := tick t s) hw hl hact hf hst (.inl hheight) order)
  · refine hchanged rfl (changeSeen_activeLineStart (s := tick t s) hw hl hact hf hst (.inr ⟨hlines, ?_⟩) order)
    rw [← Bool.not_eq_true, within4_iff]
    simpa [SourceFrame.beginLine, hlines] using hnear
  · refine hchanged rfl (changeSeen_pixelTransfer (s := tick t s) hw hl hact hst ?_)
    rwa [lanePixels_eq]
  · exact hchanged rfl (changeSeen_frameStart (s := tick t s) hw hst hf hended h ok)

end Sys2Proof.Proofs.Changes
end

section
/-! PROOFS. The source lines as the monitor and the line store take them (O39, O40). -/

namespace Sys2Proof.Proofs.SourceLines

open Sys2Proof Sys2Proof.Machine Sys2Proof.Cert Sys2Proof.Proofs.Basics Sys2Proof.Proofs.LineStarts
  Sys2Proof.Proofs.Changes

/-! ### Where an arriving line goes (R91) -/

/-- The lines begun of a frame, one more (R91). -/
def begunMore (start : Nat) (l : LineStore) : List FrameEntry :=
  l.entries.map fun e => if e.start = start then { e with begun := min (e.begun + 1) e.plan.hin } else e

theorem arriveLine_of_none {start i : Nat} {l : LineStore} (h : entryOf start l = none) :
    arriveLine start i l = (l, .notWritten) := by simp [arriveLine, h]

theorem arriveLine_of_some {start i : Nat} {l : LineStore} {e : FrameEntry} (h : entryOf start l = some e) :
    arriveLine start i l = if e.storing = false ∨ e.plan.hin ≤ i then ({ l with entries := begunMore start l }, .notWritten)
      else ((takeSlot e.tag i l.slots).map fun slots => ({ slots := slots, entries := begunMore start l }, .stored)).getD
        ({ l with entries := begunMore start l }, .overflow) := by
  simp only [arriveLine, h, mapEntries, beq_iff_eq, begunMore]
  split
  · rfl
  · cases takeSlot e.tag i l.slots <;> rfl

theorem storeLineStart_of_notWritten {start i : Nat} {s : State} {l : LineStore}
    (h : arriveLine start i s.store = (l, .notWritten)) : storeLineStart start i s = s.setStore l := by
  simp [storeLineStart, h]

theorem storeLineStart_of_stored {start i : Nat} {s : State} {l : LineStore}
    (h : arriveLine start i s.store = (l, .stored)) : storeLineStart start i s = s.setStore l := by
  simp [storeLineStart, h]

theorem storeLineStart_of_overflow {start i : Nat} {s : State} {l : LineStore}
    (h : arriveLine start i s.store = (l, .overflow)) :
    storeLineStart start i s = flagged 9 (counted (fun x => { x with overflow := more x.overflow }) (s.setStore l)) := by
  simp only [storeLineStart, h]
  rfl

/-- The first FREE slot is the one taken (R91). -/
theorem takeSlot_of_free {tag : Tag} {line : Nat} {before after : List LineSlot} {x : LineSlot}
    (hbefore : ∀ y ∈ before, y.state ≠ .free) (hx : x.state = .free) :
    takeSlot tag line (before ++ x :: after)
      = some (before ++ { x with state := .filling, tag := tag, line := line, written := 0 } :: after) := by
  induction before with
  | nil => simp [takeSlot, LineSlot.occupied, hx]
  | cons y before ih =>
    have hy : y.occupied = true := by simpa [LineSlot.occupied] using hbefore y List.mem_cons_self
    simp [takeSlot, hy, ih fun z hz => hbefore z (List.mem_cons_of_mem y hz)]

theorem takeSlot_of_occupied {tag : Tag} {line : Nat} {slots : List LineSlot} (h : ∀ y ∈ slots, y.state ≠ .free) :
    takeSlot tag line slots = none := by
  rw [takeSlot_eq_none]
  simpa [LineSlot.occupied] using h

/-! ### ACTIVE_LINE_START -/

theorem activeLineChange_of_same {i ls : Nat} {s : State}
    (h : ¬(s.mon.state = .settled ∧ (s.mon.obs.height ≤ i ∨ (i = 16 ∧ ¬near ls s.mon.obs.ls)))) :
    activeLineChange i ls s = s := by
  rw [← within4_iff, Bool.not_eq_true] at h
  exact if_neg h

/-- An active-line start that is no change, in either order (R91). -/
theorem activeLineStart_of_same {s : State} {l : SourceLine} {f : SourceFrame} (hw : watching s = true)
    (hl : s.mon.line = some l) (hact : l.active = false) (hf : s.mon.frame = some f)
    (h : ¬(s.mon.state = .settled ∧
      (s.mon.obs.height ≤ f.lines ∨ (f.lines = 16 ∧ ¬near (f.beginLine s.now).ls s.mon.obs.ls)))) (order : Bool) :
    activeLineStart order s = storeLineStart f.start f.lines (activeLineBegun l f s) := by
  rw [activeLineStart_eq hw hl hact hf]
  split
  · exact activeLineChange_of_same (by simpa [activeLineBegun] using h)
  · rw [activeLineChange_of_same (s := activeLineBegun l f s) h]

/-- Settles O39: the order makes no difference without a change; then by where the line goes. -/
theorem activeLineStartMeasuresAndStores : Obligations.ActiveLineStartMeasuresAndStores := by
  intro t order s l f hphase hmon hl hact hf now i f' hsame s1 begunMore'
  have hw : watching (tick t s) = true := (watching_iff _).mpr ⟨hphase, hmon⟩
  have hexec : exec (.activeLineStart t order) s = .next (settlePacer (storeLineStart f.start f.lines s1)) := by
    exact congrArg (fun x => Host.Outcome.next (settlePacer x))
      (activeLineStart_of_same (s := tick t s) hw hl hact hf hsame order)
  have hstored {e : FrameEntry} (he : entryOf f.start s.store = some e) (hopen : e.storing = true)
      (hline : f.lines < e.plan.hin) := (arriveLine_of_some (i := f.lines) he).trans
        (if_neg (by simp [hopen]; omega))
  refine ⟨fun hnone => ?_, fun e he hno => ?_, fun e before x after he hopen hline hslots hbefore hx => ?_,
    fun e he hopen hline hfull => ?_⟩
  · rw [hexec, storeLineStart_of_notWritten (s := s1) (arriveLine_of_none hnone)]
    rfl
  · rw [hexec, storeLineStart_of_notWritten (s := s1) ((arriveLine_of_some he).trans (if_pos hno))]
    rfl
  · have htaken := hstored he hopen hline
    rw [hslots, takeSlot_of_free hbefore hx] at htaken
    rw [hexec, storeLineStart_of_stored (s := s1) htaken]
    rfl
  · have hover := hstored he hopen hline
    rw [takeSlot_of_occupied hfull] at hover
    rw [hexec, storeLineStart_of_overflow (s := s1) hover]
    rfl

/-! ### PIXEL_TRANSFER and LINE_COMPLETE -/

theorem completeLine_entries (start i : Nat) (l : LineStore) : (completeLine start i l).entries = l.entries := by
  unfold completeLine
  split <;> rfl

theorem completeLine_slots (start i : Nat) (l : LineStore) :
    (completeLine start i l).slots = l.slots.map fun x =>
      if x.state = .filling ∧ ∃ e, entryOf start l = some e ∧ x.tag = e.tag ∧ x.line = i then { x with state := .held }
      else x := by
  unfold completeLine
  split
  · next h => simp [h]
  · next e h => simp [h]

theorem completeLines_entries (rs : List LineRef) (l : LineStore) : (completeLines rs l).entries = l.entries := by
  induction rs generalizing l with
  | nil => rfl
  | cons r rs ih => exact (ih _).trans (completeLine_entries _ _ l)

theorem entryOf_congr {l l' : LineStore} (h : l'.entries = l.entries) (start : Nat) :
    entryOf start l' = entryOf start l := by
  rw [entryOf, h, entryOf]

/-- A fall of data-enable for several lines sets the FILLING slot of each to HELD, as it would for all at once (R93). -/
theorem completeLines_slots (rs : List LineRef) (l : LineStore) :
    (completeLines rs l).slots = l.slots.map fun x =>
      if x.state = .filling ∧ ∃ r ∈ rs, ∃ e, entryOf r.frameStart l = some e ∧ x.tag = e.tag ∧ x.line = r.number then
        { x with state := .held }
      else x := by
  induction rs generalizing l with
  | nil => simp [completeLines]
  | cons r rs ih =>
    refine (ih (completeLine r.frameStart r.number l)).trans ?_
    rw [completeLine_slots, List.map_map]
    refine List.map_congr_left fun x _ => ?_
    simp only [Function.comp, entryOf_congr (completeLine_entries _ _ l)]
    by_cases hr : x.state = .filling ∧ ∃ e, entryOf r.frameStart l = some e ∧ x.tag = e.tag ∧ x.line = r.number
    · rw [if_pos hr, if_neg (by simp), if_pos ⟨hr.1, r, List.mem_cons_self, hr.2⟩]
    · rw [if_neg hr]
      refine if_congr (and_congr_right fun hx => ?_) rfl rfl
      simp only [List.mem_cons, exists_eq_or_imp]
      exact (or_iff_right fun hr' => hr ⟨hx, hr'⟩).symm

theorem completeLines_eq (rs : List LineRef) (l : LineStore) :
    completeLines rs l = { l with slots := l.slots.map fun x =>
      if x.state = .filling ∧ ∃ r ∈ rs, ∃ e, entryOf r.frameStart l = some e ∧ x.tag = e.tag ∧ x.line = r.number then
        { x with state := .held }
      else x } := by
  rw [← completeLines_slots, ← completeLines_entries rs l]

theorem storePixels_of_ignored {start i : Nat} {ps : List RawPixel} {l : LineStore}
    (h : entryOf start l = none ∨ ∃ e, entryOf start l = some e ∧ e.mode = .fillOut) : storePixels start i ps l = l := by
  obtain h | ⟨e, h, hmode⟩ := h
  · simp [storePixels, h]
  · simp [storePixels, h, hmode]

/-- Pixels stored in a line's FILLING slot, after those of the line that stand there (R88, R92). -/
theorem storePixels_of_live {start i : Nat} {ps : List RawPixel} {l : LineStore} {e : FrameEntry}
    (h : entryOf start l = some e) (hmode : e.mode = .live) :
    storePixels start i ps l = { l with slots := l.slots.map fun x =>
      if x.state = .filling ∧ x.tag = e.tag ∧ x.line = i then x.write e.format e.depth e.plan.win ps else x } := by
  simp [storePixels, h, hmode]

theorem lineComplete_eq {s : State} (hw : watching s = true) :
    lineComplete s = { s with
      mon := { s.mon with line := s.mon.line.map SourceLine.fallen, uncompleted := [] }
      store := completeLines (s.mon.uncompleted ++ awaiting s.mon.line) s.store } := by
  rw [lineComplete, if_pos hw, openRef_eq]
  rfl

theorem fallen_eq : SourceLine.fallen = fun l => if l.active = true then { l with complete := true } else l := by
  funext l
  rcases l with ⟨active, complete, _, _, _, _⟩
  cases active <;> simp [SourceLine.fallen]

/-- Settles O40: a transfer by the entry's picture mode, and the line completes of several lines as one. -/
theorem pixelsAndLineComplete : Obligations.PixelsAndLineComplete := by
  refine ⟨fun t l0 l1 l2 l3 s l hphase hmon hl hact => ?_, fun t s hphase hmon => ?_⟩
  · intro s1 px hsame m
    have hw : watching (tick t s) = true := (watching_iff _).mpr ⟨hphase, hmon⟩
    have hexec : exec (.pixelTransfer t l0 l1 l2 l3) s = .next (settlePacer (pixelsTaken l px s1)) := by
      refine congrArg (fun x => Host.Outcome.next (settlePacer x)) ?_
      rw [lanePixels_eq]
      exact (pixelTransfer_eq (s := tick t s) hw hl hact px).trans (if_neg hsame)
    refine ⟨fun hignored => ?_, fun e hopen he hmode => ?_⟩
    · rw [hexec, pixelsTaken]
      split
      · rfl
      · next hc =>
        rw [storePixels_of_ignored (l := s1.store) (hignored.resolve_left hc)]
        rfl
    · rw [hexec, pixelsTaken, if_neg (ne_true_of_eq_false hopen), storePixels_of_live (l := s1.store) he hmode]
      rfl
  · intro lines
    have hw : watching (tick t s) = true := (watching_iff _).mpr ⟨hphase, hmon⟩
    refine (congrArg (fun x => Host.Outcome.next (settlePacer x)) (lineComplete_eq (s := tick t s) hw)).trans ?_
    rw [completeLines_eq, fallen_eq]
    rfl

end Sys2Proof.Proofs.SourceLines
end

section
/-! PROOFS. Launches made and dropped, and the pacer's timers (O43, O44, O45). -/

namespace Sys2Proof.Proofs.Launches

open Sys2Proof Sys2Proof.Machine Sys2Proof.Cert Sys2Proof.Proofs.Basics Sys2Proof.Proofs.PartReset

/-! ### A launch (R62, R95, R111) -/

theorem releaseTag_eq (tag : Tag) (l : LineStore) :
    releaseTag tag l = { l with slots := l.slots.map fun x =>
      if x.state ≠ .free ∧ x.tag = tag then { x with state := .free } else x } := by
  simp [releaseTag, releaseSlots, LineSlot.occupied]

theorem endScan_eq (l : LineStore) : endScan l = scanEnded l := by
  unfold endScan scanEnded
  cases scanningEntry l with
  | none => rfl
  | some e =>
    simp only [releaseTag_eq, decide_not]
    rfl

theorem bindEntry_eq (l : LineStore) :
    bindEntry l = { l with entries := l.entries.map fun e =>
      if e.phase = .decided then { e with phase := .scanning } else e } := by
  simp [bindEntry, mapEntries]

theorem beginFrame_store (kind : LaunchKind) (lf at_ : Nat) (s : State) :
    (beginFrame kind lf at_ s).store = if kind = .live then bindEntry (scanEnded s.store) else scanEnded s.store := by
  rw [← endScan_eq]
  rfl

/-- A launch is what the statements call one (R62). -/
theorem makeLaunch_eq (kind : LaunchKind) (reason : LaunchReason) (lf at_ : Nat) (s : State) :
    makeLaunch kind reason lf at_ s = launched kind reason lf at_ s := by
  have hstore : (makeLaunch kind reason lf at_ s).store = (launched kind reason lf at_ s).store := by
    refine (beginFrame_store kind lf at_ s).trans ?_
    rw [bindEntry_eq]
    rfl
  have hrest : makeLaunch kind reason lf at_ s
      = { launched kind reason lf at_ s with store := (makeLaunch kind reason lf at_ s).store } := by
    have hphase : s.panel.phase.launchMade = (launched kind reason lf at_ s).panel.phase := by
      unfold SwitchPhase.launchMade launched
      cases s.panel.phase <;> rfl
    have hfill : launchFill kind s = if kind = .live then ((decidedEntry s.store).map (·.fill)).getD ⟨0, 0, 0⟩
        else ⟨0, 0, 0⟩ := by
      cases kind <;> rfl
    unfold makeLaunch beginFrame
    rw [hphase, hfill]
    rfl
  rw [hrest, hstore]

theorem launchPeriod_eq (s : State) : launchPeriod s = otherPeriod s := by
  unfold launchPeriod otherPeriod
  cases s.pacer.state <;> cases s.plan <;> rfl

theorem periodicKind_eq (p : PacerState) : p.periodicKind = if p = .hold then .redraw else .generated := by
  cases p <;> rfl

theorem nextPeriodic_of_periodic {s : State} (h : s.pacer.state = .freeRun ∨ s.pacer.state = .hold) :
    periodicAt (periodAfterLast s) s = scheduled (nextPeriodic s) s := by
  rw [nextPeriodic, if_pos h, periodicAt, periodicKind_eq]
  unfold periodAfterLast
  cases s.pacer.last <;> rfl

/-- The schedule after a launch (R66). -/
theorem periodicAfterLaunch_eq (s : State) : periodicAfterLaunch s = scheduled (nextPeriodic s) s := by
  have hother (h : ¬(s.pacer.state = .freeRun ∨ s.pacer.state = .hold)) : scheduled (nextPeriodic s) s = s := by
    rw [nextPeriodic, if_neg h]
    rfl
  unfold periodicAfterLaunch
  cases hst : s.pacer.state with
  | standby | live | rest => exact (hother (by simp [hst])).symm
  | freeRun => exact nextPeriodic_of_periodic (.inl hst)
  | hold => exact nextPeriodic_of_periodic (.inr hst)

theorem endSwitch_eq (e : Nat) (s : State) : endSwitch e s = switchOver e s := by
  rcases s with ⟨_, _, _, _, _, _, _, ⟨_, _, _, _, _, stop, _, _, _, _, _⟩, _, _, _, _⟩
  cases stop <;> rfl

/-! ### The live launch (R71, R72) -/

/-- A live launch made, before the predictions that follow (R71). -/
def liveMade (x : PendingLaunch) (s : State) : State :=
  let s2 := launched .live .live x.plan.lp x.time s
  figuresOnLaunch .live (counted (Stats.addLive x.lag x.cls)
    { s2 with pacer := { s2.pacer with lastLive := some x.time, lastLag := some x.lag, pending := none } })

theorem takeLive_of_plan {x : PendingLaunch} {s : State} {p : Plan} (h : s.plan = some p) :
    takeLive x s = scheduled (if p.predict = true ∧ s.pacer.tracking = .noSwitch then predictions x.time s else [])
      (liveMade x s) := by
  simp only [takeLive, makeLaunch_eq]
  split
  · next q hq =>
    obtain rfl : p = q := Option.some_injective _ (h.symm.trans hq)
    cases p.predict with
    | false => rfl
    | true => exact congrArg (scheduled · (liveMade x s)) (if_congr (and_iff_right rfl).symm rfl rfl)
  · next hq => exact absurd (h.symm.trans hq) (Option.some_ne_none p)

theorem takeLive_of_no_plan {x : PendingLaunch} {s : State} (h : s.plan = none) :
    takeLive x s = scheduled [] (liveMade x s) := by
  simp only [takeLive, makeLaunch_eq]
  split
  · next q hq => exact absurd (hq.symm.trans h) (Option.some_ne_none q)
  · rfl

theorem launchPending_of_no_switch {x : PendingLaunch} {s : State} (h : ∀ e, s.panel.phase ≠ .switching e) :
    launchPending x s = takeLive x s := by
  unfold launchPending
  split
  · next e he => exact absurd he (h e)
  · rfl
  · rfl

/-- Settles O43: with no switch in progress the launch itself, and at a switch's end the switch end before it. -/
theorem liveLaunchIsMade : Obligations.LiveLaunchIsMade := by
  intro s x hx s1
  have hexec : exec .liveLaunch s = .next (settlePacer (launchPending x s1)) := by
    show execLiveLaunch s = _
    simp only [execLiveLaunch, hx]
    rfl
  refine ⟨fun hphase => ?_, fun e hphase => ?_⟩
  · intro s2 s3
    rw [hexec, launchPending_of_no_switch (s := s1) hphase]
    cases hplan : s.plan with
    | none =>
      rw [takeLive_of_no_plan (s := s1) hplan]
      rfl
    | some p =>
      rw [takeLive_of_plan (s := s1) hplan]
      rfl
  · rw [hexec, launchPending, show s1.panel.phase = .switching e from hphase]

/-! ### The other launches (R63, R64, R66, R73) -/

theorem popSchedule_of_cons {x : SchedEntry} {rest : List SchedEntry} {s : State} (h : s.pacer.schedule = x :: rest) :
    popSchedule s = scheduled rest s := by
  rw [popSchedule, h]
  rfl

/-- An entry of the schedule earlier than e is dropped (R63, R66). -/
theorem takeEntry_of_early {x : SchedEntry} {rest : List SchedEntry} {s : State} (hs : s.pacer.schedule = x :: rest)
    (h : ∃ l, s.pacer.last = some l ∧ x.time < l.time + l.spacing) :
    takeEntry x s = scheduled (nextPeriodic (scheduled rest s)) (scheduled rest s) := by
  have hearly : beforeEarliest (scheduled rest s) x.time = true := by
    obtain ⟨l, hl, hx⟩ := h
    simp [beforeEarliest, earliest, scheduled, hl, hx]
  simp only [takeEntry, popSchedule_of_cons hs]
  rw [if_pos hearly, periodicAfterLaunch_eq]

/-- A scheduled launch made, before the next periodic one is scheduled (R63, R73). -/
def entryMade (x : SchedEntry) (s : State) : State :=
  let s2 := launched x.kind x.reason (otherPeriod s) x.time s
  if x.reason = .predicted then counted (fun k => { k with predicted := more k.predicted }) s2 else s2

theorem takeEntry_of_due {x : SchedEntry} {s : State}
    (h : ∀ l, s.pacer.last = some l → l.time + l.spacing ≤ x.time) :
    takeEntry x s = figuresOnLaunch x.kind (scheduled (nextPeriodic (entryMade x (popSchedule s)))
      (entryMade x (popSchedule s))) := by
  have hdue : beforeEarliest (popSchedule s) x.time = false := (beforeEarliest_eq_false_iff _ _).mpr h
  simp only [takeEntry]
  rw [if_neg (ne_true_of_eq_false hdue), periodicAfterLaunch_eq, makeLaunch_eq, launchPeriod_eq]
  rfl

theorem forcedKind_eq {s : State} :
    forcedKind s = if s.pacer.state = .hold ∨ (s.pacer.state = .live ∧ (currentProfile s).redraw = true) then .redraw
      else .generated := by
  unfold forcedKind
  cases s.pacer.state <;> simp

/-- A forced launch made (R64). -/
theorem takeForced_eq (d : Nat) (s : State) :
    takeForced d s =
      figuresOnLaunch (forcedKind s) (scheduled (nextPeriodic
        (counted (fun k => { k with forced := more k.forced }) (launched (forcedKind s) .forced (otherPeriod s) d s)))
        (counted (fun k => { k with forced := more k.forced }) (launched (forcedKind s) .forced (otherPeriod s) d s))) := by
  simp only [takeForced, periodicAfterLaunch_eq, makeLaunch_eq, launchPeriod_eq]
  rfl

theorem applicationPoint_eq (s : State) :
    applicationPoint s = if s.stage.groupOpen = true ∨ s.stage.edits = [] then s else applyList s.stage.edits s := rfl

/-- The pacer told of a switch end (R78). -/
def switchToldOf (e : Nat) (s : State) : State :=
  { s with pacer := { s.pacer with
      tracking := .noSwitch
      last := none
      schedule := if s.pacer.state = .freeRun ∨ s.pacer.state = .hold then
          [{ time := e, reason := .periodic, kind := if s.pacer.state = .hold then .redraw else .generated }]
        else s.pacer.schedule } }

theorem pacerSwitchEnd_eq (e : Nat) (s : State) : pacerSwitchEnd e s = switchToldOf e s := by
  unfold pacerSwitchEnd switchToldOf
  cases hst : s.pacer.state <;> simp [periodicAt, hst, State.setPacer, PacerState.periodicKind]

theorem popSchedule_switchToldOf {e : Nat} {s : State} (hst : s.pacer.state = .freeRun ∨ s.pacer.state = .hold)
    (hs : s.pacer.schedule = []) :
    popSchedule (switchToldOf e s) = { s with pacer := { s.pacer with tracking := .noSwitch, last := none } } := by
  rw [popSchedule_of_cons (rest := []) (if_pos hst), ← hs]
  rfl

theorem firstEntry_eq {x : SchedEntry} {rest : List SchedEntry} {s : State} (h : s.pacer.schedule = x :: rest)
    (reason : LaunchReason) : firstEntry reason s = if x.reason = reason then some x else none := by
  simp [firstEntry, h, Option.filter]

theorem firstEntry_of_nil {s : State} (h : s.pacer.schedule = []) (reason : LaunchReason) :
    firstEntry reason s = none := by simp [firstEntry, h]

theorem launchAtEnd_of_switching {s : State} {e : Nat} (hphase : s.panel.phase = .switching e)
    (hst : s.pacer.state = .freeRun ∨ s.pacer.state = .hold) : launchAtEnd s = some e := by
  obtain hst | hst := hst <;> simp [launchAtEnd, hphase, hst]

theorem otherPeriod_of_not_live {s : State} (h : s.pacer.state ≠ .live) :
    otherPeriod s = (currentProfile s).lpMin := by
  unfold otherPeriod
  split
  · next h' _ => exact absurd h' h
  · rfl

/-- Settles O44: an entry by whether it comes before e, then the forced launch, then the launch at a switch end. -/
theorem otherLaunchesAreMadeOrDropped : Obligations.OtherLaunchesAreMadeOrDropped := by
  intro s
  refine ⟨fun c hc x rest hs hreason => ?_, fun d hd hst => ?_, fun e hphase hst hs => ?_⟩
  · intro s1
    have hexec : exec c.1 s = .next (settlePacer (takeEntry x (tick x.time s))) := by
      simp only [List.mem_cons, List.not_mem_nil, or_false] at hc
      obtain rfl | rfl := hc
      · show execPredictedRedraw s = _
        simp only [execPredictedRedraw, firstEntry_eq hs, if_pos hreason]
      · show execPeriodicLaunch s = _
        simp only [execPeriodicLaunch, firstEntry_eq hs, if_pos hreason]
    refine ⟨fun h => ?_, fun h => ?_⟩
    · rw [hexec, takeEntry_of_early (s := tick x.time s) hs h]
      rfl
    · intro s2 s3
      have hmade : entryMade x s1 = s3 := if_congr (by rw [hreason]) rfl rfl
      rw [hexec, takeEntry_of_due (s := tick x.time s) h, popSchedule_of_cons (s := tick x.time s) hs]
      exact congrArg (fun a => Host.Outcome.next (settlePacer (figuresOnLaunch x.kind (scheduled (nextPeriodic a) a)))) hmade
  · intro kind s2
    have hexec : exec .forcedDeadline s = .next (settlePacer (takeForced d (tick d s))) := by
      show execForcedDeadline s = _
      simp only [execForcedDeadline, hd]
    rw [hexec, takeForced_eq, forcedKind_eq]
    rfl
  · intro kind s1 s2 s3
    have hst : s.pacer.state = .freeRun ∨ s.pacer.state = .hold := by simpa using hst
    have hexec : exec .periodicLaunch s = .next (settlePacer (launchFirst e (tick e s))) := by
      show execPeriodicLaunch s = _
      rw [execPeriodicLaunch, firstEntry_of_nil hs, launchAtEnd_of_switching hphase hst]
    have hnot : s.pacer.state ≠ .live := by
      obtain h | h := hst <;> simp [h]
    have hmade : entryMade { time := e, reason := .periodic, kind := s.pacer.state.periodicKind }
        (popSchedule (switchToldOf e s1)) = s2 := by
      rw [popSchedule_switchToldOf (s := s1) hst hs, periodicKind_eq, entryMade, otherPeriod_of_not_live (by exact hnot)]
      rfl
    rw [hexec, launchFirst, endSwitch_eq, pacerSwitchEnd_eq, takeEntry_of_due (by simp [switchToldOf])]
    refine congrArg (fun a => Host.Outcome.next (settlePacer a)) ?_
    refine (congrArg (fun a => applicationPoint (figuresOnLaunch s.pacer.state.periodicKind
      (scheduled (nextPeriodic a) a))) hmade).trans ?_
    rw [periodicKind_eq, applicationPoint_eq]
    have hstage : s3.stage = s.stage := by simp [s3, s2, s1, scheduled, launched, switchOver, atTime]
    exact if_congr (by rw [← hstage]) rfl (by rw [← hstage])

/-! ### The two timers (R79, R80, R81) -/

theorem timer_set_false_ne_running (t e : Nat) (x : Timer) : x.set false t ≠ .running e := by
  cases x <;> exact Timer.noConfusion

/-- The pacer taken to REST (R81). -/
theorem settlePacer_enterRest (s : State) :
    settlePacer (enterRest s) = flagged 12 { portStop s with pacer := { (portStop s).pacer with
      state := .rest, schedule := [], deadline := none, restTimer := s.pacer.restTimer.set false s.now } } := by
  obtain ⟨q, tr, hstop⟩ := exists_portStop s
  rw [settlePacer_of_stopped (.inr (by simp [enterRest, setPacerState])), enterRest, hstop s rfl rfl rfl,
    hstop (emptySchedule (setPacerState .rest s)) rfl rfl rfl]
  rfl

/-- Settles O45: HOLD's timer by the last launch, and the rest timer by the stop it asks for. -/
theorem holdAndRestTimersExpire : Obligations.HoldAndRestTimersExpire := by
  intro s e
  refine ⟨fun hst htimer => ?_, fun hst htimer => ?_⟩
  · have hexec : exec .holdTimerExpiry s = .next (settlePacer (holdToFreeRun (tick e s))) := by
      show execHoldTimerExpiry s = _
      simp only [execHoldTimerExpiry, hst, htimer]
    have htime : max (tick e s).now ((earliest (tick e s)).getD 0) = match s.pacer.last with
        | some l => max (max s.now e) (l.time + l.spacing)
        | none => max s.now e := by
      cases hl : s.pacer.last <;> simp [earliest, hl]
    rw [hexec, holdToFreeRun, htime]
    rfl
  · intro s1
    have hexec : exec .restTimerExpiry s = .next (settlePacer (enterRest (tick e s))) := by
      show execRestTimerExpiry s = _
      simp only [execRestTimerExpiry, hst, htimer]
    rw [settlePacer_enterRest] at hexec
    exact ⟨_, hexec, rfl, fun a => timer_set_false_ne_running _ a _⟩

end Sys2Proof.Proofs.Launches
end

section
/-! PROOFS. The panel frame: its lines, its scan end and trail end, and the switch end (O46, O47, O48). -/

namespace Sys2Proof.Proofs.PanelFrames

open Sys2Proof Sys2Proof.Machine Sys2Proof.Cert Sys2Proof.Proofs.Basics Sys2Proof.Proofs.Launches
  Sys2Proof.Proofs.LineStarts

/-! ### The base line of a panel line (R95 to R98) -/

theorem notePictureLine_eq (j : Nat) (l : LineStore) :
    notePictureLine j l = { l with entries := l.entries.map fun x =>
      if x.phase = .scanning then { x with nextLine := j + 1 } else x } := by
  simp [notePictureLine, mapEntries]

theorem releaseBelow_eq (e : FrameEntry) (j : Nat) (l : LineStore) :
    releaseBelow e j l = { l with slots := l.slots.map fun x =>
      if x.state ≠ .free ∧ x.tag = e.tag ∧ x.line < j * e.plan.sv / 65536 - 1 then { x with state := .free } else x } := by
  have hslots : ∀ x : LineSlot, (x.occupied && (x.tag == e.tag && decide (x.line < lowestLine e.plan.sv j))) = true
      ↔ x.state ≠ .free ∧ x.tag = e.tag ∧ x.line < j * e.plan.sv / 65536 - 1 := by
    intro x
    simp only [Bool.and_eq_true, decide_eq_true_eq, beq_iff_eq, LineSlot.occupied, bne_iff_ne]
    rfl
  rw [releaseBelow, releaseSlots]
  simp only [hslots]

theorem endPicture_eq (e : FrameEntry) (l : LineStore) :
    endPicture e l = {
      slots := l.slots.map fun x => if x.state = .held ∧ x.tag = e.tag then { x with state := .free } else x
      entries := l.entries.map fun x => if x.start = e.start then { x with storing := false } else x } := by
  have hslots : ∀ x : LineSlot, (x.occupied && (x.tag == e.tag && x.state == .held)) = true
      ↔ x.state = .held ∧ x.tag = e.tag := by
    intro x
    cases h : x.state <;> simp [LineSlot.occupied, h]
  rw [endPicture, closeStoring_eq, releaseSlots]
  simp only [hslots]

theorem isUnderrun_iff (e : FrameEntry) (slots : List LineSlot) (j : Nat) :
    isUnderrun e slots j = true ↔ ∃ tap ∈ [(verticalTaps e.plan j).1, (verticalTaps e.plan j).2.1,
      (verticalTaps e.plan j).2.2.1, (verticalTaps e.plan j).2.2.2], tapState e slots tap = .notArrived := by
  simp [isUnderrun]

theorem storePanelLine_of_fillOut {e : FrameEntry} {wp y : Nat} {l : LineStore} (h : e.mode = .fillOut) :
    storePanelLine e wp y l
      = (if e.plan.yoff ≤ y ∧ y < e.plan.yoff + e.plan.hout then notePictureLine (y - e.plan.yoff) l else l,
        plainLine wp e.fill, false) := by
  simp [storePanelLine, h]

theorem storePanelLine_of_picture {e : FrameEntry} {wp y : Nat} {l : LineStore} (h : e.mode = .live)
    (hy : e.plan.yoff ≤ y ∧ y < e.plan.yoff + e.plan.hout) :
    storePanelLine e wp y l
      = (notePictureLine (y - e.plan.yoff) (releaseBelow e (y - e.plan.yoff) l),
        pictureLine e (releaseBelow e (y - e.plan.yoff) l).slots wp (y - e.plan.yoff),
        isUnderrun e (releaseBelow e (y - e.plan.yoff) l).slots (y - e.plan.yoff)) := by
  simp [storePanelLine, h, hy]

theorem storePanelLine_of_below {e : FrameEntry} {wp y : Nat} {l : LineStore} (h : e.mode = .live)
    (hy : y = e.plan.yoff + e.plan.hout) :
    storePanelLine e wp y l = (endPicture e l, plainLine wp e.fill, false) := by
  simp [storePanelLine, h, hy]

theorem storePanelLine_of_outside {e : FrameEntry} {wp y : Nat} {l : LineStore}
    (hy : y < e.plan.yoff ∨ e.plan.yoff + e.plan.hout < y ∨ (e.mode = .fillOut ∧ e.plan.yoff + e.plan.hout ≤ y)) :
    storePanelLine e wp y l = (l, plainLine wp e.fill, false) := by
  have hnot : ¬(e.plan.yoff ≤ y ∧ y < e.plan.yoff + e.plan.hout) := by omega
  cases hmode : e.mode with
  | fillOut => simp [storePanelLine, hmode, hnot]
  | live =>
    have hne : y ≠ e.plan.yoff + e.plan.hout := by simp [hmode] at hy; omega
    simp [storePanelLine, hmode, hnot, hne]

theorem baseLine_of_redraw {f : PanelFrame} (h : f.kind = .redraw) (s : State) : baseLine f s = (s, none) := by
  simp [baseLine, h]

theorem baseLine_of_generated {f : PanelFrame} (h : f.kind = .generated) (s : State) :
    baseLine f s = (s, some (plainLine f.wp s.panel.fill)) := by simp [baseLine, h]

theorem baseLine_of_no_entry {f : PanelFrame} {s : State} (h : f.kind = .live) (he : scanningEntry s.store = none) :
    baseLine f s = (s, some (plainLine f.wp f.fill)) := by simp [baseLine, h, he]

theorem baseLine_of_entry {f : PanelFrame} {s : State} {e : FrameEntry} {l : LineStore} {base : List Colour}
    (h : f.kind = .live) (he : scanningEntry s.store = some e)
    (hline : storePanelLine e f.wp f.nextLine s.store = (l, base, false)) :
    baseLine f s = ({ s with store := l }, some base) := by
  simp [baseLine, h, he, hline, State.setStore]

theorem baseLine_of_underrun {f : PanelFrame} {s : State} {e : FrameEntry} {l : LineStore} {base : List Colour}
    (h : f.kind = .live) (he : scanningEntry s.store = some e)
    (hline : storePanelLine e f.wp f.nextLine s.store = (l, base, true)) :
    baseLine f s = (flagged 8 (counted (fun c => { c with underrun := more c.underrun }) { s with store := l }),
      some base) := by
  simp only [baseLine, h, he, hline]
  rfl

/-! ### PANEL_LINE_START -/

/-- A panel line sent with the windows merged into its base line, and those left out counted (R113, R131, R132). -/
def lineSent (f : PanelFrame) (s : State) (base : List Colour) : State :=
  let s' := dropLines (droppedWindows s f.wp f.nextLine) s
  { s' with panel := { s'.panel with
    state := .scan
    frame := some { f with nextLine := f.nextLine + 1 }
    out := { s'.panel.out with dataEnable := true, line := mergeLine s f.wp f.nextLine base } } }

theorem panelLine_of_base {f : PanelFrame} {s s' : State} {base : List Colour} (h : baseLine f s = (s', some base)) :
    panelLine f s = lineSent f s' base := by
  simp only [panelLine, h]
  rfl

theorem panelLine_of_redraw {f : PanelFrame} (h : f.kind = .redraw) (s : State) :
    panelLine f s = { s with panel := { s.panel with
      state := .scan
      frame := some { f with nextLine := f.nextLine + 1 }
      out := { s.panel.out with dataEnable := false, line := [] } } } := by
  simp only [panelLine, baseLine_of_redraw h]
  rfl

theorem scanningFrame_of_scan {s : State} (h : s.panel.state = .lead ∨ s.panel.state = .scan) :
    scanningFrame s = s.panel.frame := by
  obtain h | h := h <;> simp [scanningFrame, h]

/-- Settles O46: by the kind of the frame, and in a LIVE one by the entry and where the line lies. -/
theorem panelLineIsFormed : Obligations.PanelLineIsFormed := by
  intro s f hst hf hy y s1 frame' sent
  have hexec : exec .panelLineStart s = .next (panelLine f s1) := by
    show execPanelLineStart s = _
    rw [execPanelLineStart, scanningFrame_of_scan hst, hf]
    exact if_pos hy
  have hsent {s2 : State} {base : List Colour} (h : baseLine f s1 = (s2, some base)) :
      exec .panelLineStart s = sent s2 base := by
    rw [hexec, panelLine_of_base h]
    rfl
  refine ⟨fun h => ?_, fun h => hsent (baseLine_of_generated h s1),
    fun h he => hsent (baseLine_of_no_entry (s := s1) h he), fun e h he => ?_⟩
  · rw [hexec, panelLine_of_redraw h]
    rfl
  · intro top bottom noted
    have hnoted : noted = notePictureLine (y - top) := by
      funext l
      exact (notePictureLine_eq (y - top) l).symm
    refine ⟨fun hmode htop hbottom => ?_, fun hy => ?_, fun hmode hy => ?_, fun hmode htop hbottom => ?_⟩
    · rw [hnoted]
      refine hsent (baseLine_of_entry (s := s1) h he ((storePanelLine_of_fillOut hmode).trans ?_))
      rw [if_pos ⟨htop, hbottom⟩]
      rfl
    · exact hsent (baseLine_of_entry (s := s1) h he (storePanelLine_of_outside hy))
    · refine hsent (baseLine_of_entry (s := s1) h he ((storePanelLine_of_below hmode hy).trans ?_))
      rw [endPicture_eq]
      rfl
    · intro j slots taps s2 base
      have hline := storePanelLine_of_picture (wp := f.wp) (l := s1.store) hmode ⟨htop, hbottom⟩
      rw [releaseBelow_eq] at hline
      have hs2 : s2 = { s1 with store := notePictureLine j { s.store with slots := slots } } := by
        show ({ s1 with store := noted _ } : State) = _
        rw [hnoted]
      refine ⟨fun hall => ?_, fun hsome => ?_⟩
      · have hno : isUnderrun e slots j = false := by
          rw [← Bool.not_eq_true, isUnderrun_iff]
          rintro ⟨tap, htap, hstate⟩
          exact hall tap htap hstate
        rw [hs2]
        refine hsent (baseLine_of_entry (s := s1) h he (hline.trans ?_))
        exact congrArg (fun b => (_, _, b)) hno
      · have hyes : isUnderrun e slots j = true := (isUnderrun_iff e slots j).mpr hsome
        rw [hs2]
        refine hsent (baseLine_of_underrun (s := s1) h he (hline.trans ?_))
        exact congrArg (fun b => (_, _, b)) hyes

/-! ### The scan end and the trail end (R104, R115, R116) -/

theorem storeScanEnd_eq (kind : LaunchKind) (s : State) :
    storeScanEnd kind s = { s with store := if kind = .live then scanEnded s.store else s.store } := by
  cases kind with
  | live => exact congrArg s.setStore (endScan_eq s.store)
  | generated | redraw => rfl

/-- Settles O47: the scan end, and the trail end by the switch phase and the pending stop. -/
theorem scanAndTrailEnd : Obligations.ScanAndTrailEnd := by
  intro s f hf
  refine ⟨fun hst => ?_, fun hst => ?_⟩
  · intro s1 s2
    have hexec : exec .scanEnd s = .next (settlePacer (scanEndOf f s1)) := by
      show execScanEnd s = _
      rw [execScanEnd, scanningFrame_of_scan hst, hf]
      rfl
    rw [hexec, scanEndOf, storeScanEnd_eq]
    rfl
  · intro end_ s1 left
    have hexec : exec .trailEnd s = .next (settlePacer (endTrail end_ s1)) := by
      show execTrailEnd s = _
      simp only [execTrailEnd, hst, hf]
      rfl
    have hleft {q : PanelPort} (h : endTrail end_ s1 = { s1 with panel := { q with frame := none } }) : left q := by
      show exec .trailEnd s = _
      rw [hexec, h]
    refine ⟨fun hphase hstop => hleft ?_, fun hphase hstop => hleft ?_, fun hphase => hleft ?_, fun hphase => ?_⟩
    · rw [endTrail, show s1.panel.phase = .noSwitch from hphase]
      exact if_pos hstop
    · rw [endTrail, show s1.panel.phase = .noSwitch from hphase]
      exact if_neg (ne_true_of_eq_false hstop)
    · rw [endTrail, show s1.panel.phase = .pending true from hphase]
      rfl
    · rw [hexec, endTrail, show s1.panel.phase = .pending false from hphase]
      rfl

/-! ### The switch end (R78, R119) -/

theorem exec_switchEnd {s : State} {e : Nat} (h : s.panel.phase = .switching e) (order : Bool) :
    exec (.switchEnd order) s = .next (settlePacer (switchEndOf e order (tick e s))) := by
  show execSwitchEnd order s = _
  simp only [execSwitchEnd, h]

/-- Settles O48: the port and the pacer at the end, and the stage on either side of them. -/
theorem switchEnds : Obligations.SwitchEnds := by
  intro s e hphase s1 told
  have htold : told = switchToldOf e := rfl
  have hafter : switchEndOf e false (tick e s) = applicationPoint (told s1) := by
    rw [htold, switchEndOf, endSwitch_eq, pacerSwitchEnd_eq]
    rfl
  have hbefore : switchEndOf e true (tick e s)
      = if (applicationPoint s1).panel.phase = .noSwitch then told (applicationPoint s1) else applicationPoint s1 := by
    rw [htold, switchEndOf, if_pos rfl]
    dsimp only
    rw [endSwitch_eq, pacerSwitchEnd_eq]
    rfl
  refine ⟨fun h order => ?_, fun hopen hedits => ⟨?_, ?_⟩⟩
  · rw [exec_switchEnd hphase]
    have hpass (x : State) (hx : x.stage = s.stage) : applicationPoint x = x := by
      rw [applicationPoint_eq, hx]
      exact if_pos h
    cases order with
    | false => rw [hafter, hpass (told s1) rfl]
    | true => rw [hbefore, hpass s1 rfl, if_pos (show s1.panel.phase = .noSwitch from rfl)]
  · have hnot : ¬((told s1).stage.groupOpen = true ∨ (told s1).stage.edits = []) := by
      simp [told, s1, switchOver, atTime, hopen, hedits]
    rw [exec_switchEnd hphase, hafter, applicationPoint_eq, if_neg hnot]
    rfl
  · intro s2
    have hnot : ¬(s1.stage.groupOpen = true ∨ s1.stage.edits = []) := by
      simp [s1, switchOver, atTime, hopen, hedits]
    rw [exec_switchEnd hphase, hbefore, applicationPoint_eq, if_neg hnot]
    rfl

end Sys2Proof.Proofs.PanelFrames
end

section
/-! PROOFS. Source frame starts: the signal, the launch decision, the deciding launch and the predictions (O35, O36, O37). -/

namespace Sys2Proof.Proofs.FrameStarts

open Sys2Proof Sys2Proof.Machine Sys2Proof.Cert Sys2Proof.Proofs.Basics Sys2Proof.Proofs.LineStarts
  Sys2Proof.Proofs.Changes Sys2Proof.Proofs.Launches

/-! ### The steps of an accepted source frame start (R13) -/

theorem recordPeriod_of_none {s : State} (h : s.mon.lastStart = none) :
    recordPeriod s = { s with mon := { s.mon with timer := some (s.now + 10000000), lastStart := some s.now } } := by
  simp [recordPeriod, h, State.setMon, Config.frameTimeout]

theorem recordPeriod_of_some {s : State} {a : Nat} (h : s.mon.lastStart = some a) :
    recordPeriod s = { s with mon := { s.mon with
      timer := some (s.now + 10000000), periods := enterPeriod (s.now - a) s.mon.periods, lastStart := some s.now } } := by
  simp [recordPeriod, h, State.setMon, Config.frameTimeout]

theorem sampleChange_of_not_settled {format : Format} {depth : Depth} {vrr : Bool} {s : State}
    (h : s.mon.state ≠ .settled) : sampleChange format depth vrr s = s := if_neg fun hx => h hx.1

theorem sampleChange_of_same (s : State) :
    sampleChange s.mon.obs.format s.mon.obs.depth s.mon.obs.vrr s = s := if_neg fun hx => hx.2 ⟨rfl, rfl, rfl⟩

theorem sampleGame_of_other {game : Bool} {s : State} (h : ¬game = s.mon.obs.game) :
    sampleGame game s = flagged 11 { s with mon := { s.mon with obs := { s.mon.obs with game := game } } } := if_neg h

theorem deliverFrameStart_of_pending {s : State} (h : s.pacer.pending ≠ none) :
    deliverFrameStart s = pacerFrameStart s := if_pos (Option.isSome_iff_ne_none.mpr h)

theorem deliverFrameStart_of_none {s : State} (h : s.pacer.pending = none) :
    deliverFrameStart s = launchAtOnce (pacerFrameStart s) := if_neg (by simp [h])

theorem launchAtOnce_of_none {s : State} (h : s.pacer.pending = none) : launchAtOnce s = s := by simp [launchAtOnce, h]

theorem launchAtOnce_of_some {s : State} {x : PendingLaunch} (h : s.pacer.pending = some x) :
    launchAtOnce s = if x.time = s.now then launchPending x s else s := by simp [launchAtOnce, h]

theorem pacerFrameStart_of_not_live {s : State} (h : s.pacer.state ≠ .live) : pacerFrameStart s = s := by
  unfold pacerFrameStart
  split
  · next h' _ => exact absurd h' h
  · rfl

/-- A source frame start outside LIVE says nothing to the pacer (R67). -/
theorem deliverFrameStart_of_not_live {s : State} (h : s.pacer.state ≠ .live) : deliverFrameStart s = s := by
  cases hp : s.pacer.pending with
  | none => rw [deliverFrameStart_of_none hp, pacerFrameStart_of_not_live h, launchAtOnce_of_none hp]
  | some x => rw [deliverFrameStart_of_pending (by simp [hp]), pacerFrameStart_of_not_live h]

/-! ### The signal appears (R6) -/

theorem frameStart_of_ignored {ok : Bool} {s : State} (hmon : s.mon.state = .noSignal)
    (h : ok = false ∨ s.ctl.phase = .starting) (format : Format) (depth : Depth) (vrr game : Bool) :
    frameStart ok format depth vrr game s = s := by
  unfold frameStart
  split
  · rfl
  · next hphase => simp [hmon, h.resolve_right hphase]

theorem frameStart_of_signal {s : State} (hmon : s.mon.state = .noSignal) (hphase : s.ctl.phase = .ready)
    (format : Format) (depth : Depth) (vrr game : Bool) :
    frameStart true format depth vrr game s = acceptFrameStart format depth vrr game (signalAppears s) := by
  simp [frameStart, hmon, hphase]

/-- The frame a source frame start begins (R2, R13). -/
def newFrame (now : Nat) (format : Format) (depth : Depth) (vrr game : Bool) : SourceFrame :=
  { start := now, format := format, depth := depth, vrr := vrr, game := game, lines := 0, width0 := 0, line0At := 0,
    ls := 0, slead := 0, regular := true, ended := false }

theorem beginSourceFrame_of_no_line {s : State} (h : s.mon.line = none) (format : Format) (depth : Depth)
    (vrr game : Bool) :
    beginSourceFrame format depth vrr game s
      = { s with mon := { s.mon with frame := some (newFrame s.now format depth vrr game) } } := by
  simp [beginSourceFrame, h, State.setMon, newFrame]

/-- The first source frame of a signal, before the game flag is looked at. -/
def firstFrame (format : Format) (depth : Depth) (vrr game : Bool) (s : State) : State :=
  { s with
    mon := { s.mon with
      state := .measuring
      lastStart := some s.now
      timer := some (s.now + 10000000)
      frame := some (newFrame s.now format depth vrr game) }
    pacer := { s.pacer with restTimer := s.pacer.loadedRest } }

theorem acceptFrameStart_of_signal {s : State} (hclear : ClearedInNoSignal s) (hmon : s.mon.state = .noSignal)
    (hlive : s.pacer.state ≠ .live) (format : Format) (depth : Depth) (vrr game : Bool) :
    acceptFrameStart format depth vrr game (signalAppears s) = sampleGame game (firstFrame format depth vrr game s) := by
  have hs := hclear hmon
  have hframe : s.mon.frame = none := by rw [hs]; rfl
  have hline : s.mon.line = none := by rw [hs]; rfl
  have hlast : s.mon.lastStart = none := by rw [hs]; rfl
  simp only [acceptFrameStart]
  rw [frameEnd_of_none (s := signalAppears s) hframe, recordPeriod_of_none (s := signalAppears s) hlast,
    beginSourceFrame_of_no_line (by exact hline), sampleChange_of_not_settled MonState.noConfusion,
    deliverFrameStart_of_not_live (by simpa [signalAppears, loadRest, setMonState] using hlive)]
  rfl

/-- Settles O35: the five steps of R13 on a cleared monitor. -/
theorem signalAppears : Obligations.SignalAppears := by
  intro t ok vrr game format depth s hclear hmon
  refine ⟨fun h => ?_, fun hok hphase hlive => ?_⟩
  · exact congrArg (fun x => Host.Outcome.next (settlePacer x))
      (frameStart_of_ignored (s := tick t s) hmon h format depth vrr game)
  · subst hok
    intro now
    refine congrArg (fun x => Host.Outcome.next (settlePacer x)) ?_
    have hgame : s.mon.obs.game = false := by rw [hclear hmon]; rfl
    rw [frameStart_of_signal (s := tick t s) hmon hphase, acceptFrameStart_of_signal (s := tick t s) hclear hmon hlive]
    cases game with
    | false =>
      rw [sampleGame_of_same (by exact hgame.symm)]
      have hobs : ({ s.mon.obs with game := false } : Observation) = s.mon.obs := by rw [← hgame]
      rw [hobs]
      rfl
    | true =>
      rw [sampleGame_of_other (by simp [firstFrame, hgame])]
      rfl

/-! ### The launch decision (R67 to R70, R78) -/

/-- A frame decided to be presented: its pending live launch, and its entry in the line store (R69, R90). -/
def framePresented (p : Plan) (time lag : Nat) (cls : Option DeferClass) (schedule : List SchedEntry) (s : State) : State :=
  { s with
    pacer := { s.pacer with
      schedule := schedule, pending := some { time := time, plan := p, lag := lag, cls := cls } }
    store := { s.store with entries := s.store.entries ++
      [{ tag := newTag s.store, start := s.now, plan := p, fill := activeFill s
         format := (s.mon.frame.map (·.format)).getD .full, depth := (s.mon.frame.map (·.depth)).getD .d8
         phase := .decided, storing := true, begun := 0, mode := .live, nextLine := 0 }] } }

/-- The added lag of a frame decided by these launches (R68). -/
def lagOf (d : Nat) (deciding : Option Deciding) : Nat := (deciding.map fun l => l.time + l.spacing - d).getD 0

/-- Its deferral class (R69). -/
def classOf (d : Nat) (deciding : Option Deciding) : Option DeferClass :=
  if lagOf d deciding = 0 then none else deciding.map fun l => if l.live then DeferClass.overrate else DeferClass.collision

theorem pacerFrameStart_of_pending {s : State} {p : Plan} (hlive : s.pacer.state = .live) (hplan : s.plan = some p)
    (h : s.pacer.pending ≠ none) : pacerFrameStart s = skipFrame s := by
  simp [pacerFrameStart, hlive, hplan, Option.isSome_iff_ne_none, h]

theorem pacerFrameStart_of_waiting {s : State} {p : Plan} (hlive : s.pacer.state = .live) (hplan : s.plan = some p)
    (h : s.pacer.pending = none) (ht : s.pacer.tracking = .waiting) : pacerFrameStart s = skipFrame s := by
  simp [pacerFrameStart, hlive, hplan, h, ht]

theorem pacerFrameStart_of_no_switch {s : State} {p : Plan} (hlive : s.pacer.state = .live) (hplan : s.plan = some p)
    (h : s.pacer.pending = none) (ht : s.pacer.tracking = .noSwitch) : pacerFrameStart s = decideFrame p s := by
  simp [pacerFrameStart, hlive, hplan, h, ht]

theorem presentFrame_eq (p : Plan) (d lag : Nat) (cls : Option DeferClass) (s : State) :
    presentFrame p d lag cls s = framePresented p (d + lag) lag cls s.pacer.schedule s := rfl

theorem pacerFrameStart_of_switching {s : State} {p : Plan} {e : Nat} (hlive : s.pacer.state = .live)
    (hplan : s.plan = some p) (h : s.pacer.pending = none) (ht : s.pacer.tracking = .switching e) :
    pacerFrameStart s = if e ≤ s.now + p.w then framePresented p (s.now + p.w) 0 none s.pacer.schedule s
      else skipFrame s := by
  simp [pacerFrameStart, hlive, hplan, h, ht, presentFrame_eq]

/-- The entries of the schedule a launch decision keeps (R68). -/
def keptBy (p : Plan) (s : State) : List SchedEntry :=
  s.pacer.schedule.filter fun x => decide (x.time + p.tmin ≤ s.now + p.w)

/-- The deciding launch of a launch decision (R68). -/
def decidingOf (p : Plan) (s : State) : Option Deciding :=
  decidingLaunch (s.now + p.w) p.tmin (keptBy p s) (scheduled (keptBy p s) s)

theorem decideFrame_of_within {p : Plan} {s : State} (h : lagOf (s.now + p.w) (decidingOf p s) ≤ p.limit) :
    decideFrame p s = framePresented p (s.now + p.w + lagOf (s.now + p.w) (decidingOf p s))
      (lagOf (s.now + p.w) (decidingOf p s)) (classOf (s.now + p.w) (decidingOf p s)) (keptBy p s) s := by
  exact if_pos h

/-- What follows a frame skipped at its launch decision: under predict-enabled the predictions, from the last launch
(R70, R72). -/
def afterSkip (p : Plan) (s : State) : State :=
  if p.predict then
    match s.pacer.last with
    | some l => schedulePredictions l.time s
    | none => s.setPacer { s.pacer with schedule := [] }
  else s

theorem decideFrame_of_above {p : Plan} {s : State} (h : p.limit < lagOf (s.now + p.w) (decidingOf p s)) :
    decideFrame p s = afterSkip p (skipFrame (scheduled (keptBy p s) s)) := if_neg (Nat.not_le.mpr h)

theorem afterSkip_of_not {p : Plan} (h : p.predict = false) (s : State) : afterSkip p s = s :=
  if_neg (ne_true_of_eq_false h)

theorem afterSkip_of_last {p : Plan} {s : State} {l : LastLaunch} (h : p.predict = true)
    (hl : s.pacer.last = some l) (ht : s.pacer.tracking = .noSwitch) :
    afterSkip p s = scheduled (predictions l.time s) s := by
  simp [afterSkip, h, hl, schedulePredictions, ht, scheduled, State.setPacer]

theorem afterSkip_of_none {p : Plan} {s : State} (h : p.predict = true) (hl : s.pacer.last = none) :
    afterSkip p s = scheduled [] s := by
  simp [afterSkip, h, hl, scheduled, State.setPacer]

/-- Settles O36: the frame is accepted with no change, and then by the pending launch and the tracking. -/
theorem launchDecision : Obligations.LaunchDecision := by
  intro t ok s p f hphase hst hf hended hlive hplan now o c s1 skipped presented
  have hw : watching (tick t s) = true := (watching_iff _).mpr ⟨hphase, by simp [hst]⟩
  have hs1 : beginSourceFrame o.format o.depth o.vrr o.game (recordPeriod (tick t s)) = s1 := by
    cases hlast : s.mon.lastStart with
    | none =>
      rw [recordPeriod_of_none (s := tick t s) hlast]
      simp only [s1, hlast]
      rfl
    | some a =>
      rw [recordPeriod_of_some (s := tick t s) hlast]
      simp only [s1, hlast]
      rfl
  have hexec : exec c s = .next (settlePacer (deliverFrameStart s1)) := by
    refine congrArg (fun x => Host.Outcome.next (settlePacer x)) ?_
    rw [frameStart_of_watching hw]
    simp only [acceptFrameStart, frameEnd_of_ended (s := tick t s) hf hended]
    rw [hs1, show sampleChange o.format o.depth o.vrr s1 = s1 from sampleChange_of_same s1,
      sampleGame_of_same (s := s1) rfl]
  have hpresented (schedule : List SchedEntry) (time lag : Nat) (cls : Option DeferClass) :
      launchAtOnce (framePresented p time lag cls schedule s1) = presented schedule time lag cls :=
    launchAtOnce_of_some (s := framePresented p time lag cls schedule s1) (x := ⟨time, p, lag, cls⟩) rfl
  refine ⟨fun hpending => ?_, fun hpending ht => ?_, fun hpending ht => ?_, fun e hpending ht => ?_⟩
  · rw [hexec, deliverFrameStart_of_pending (s := s1) hpending, pacerFrameStart_of_pending (s := s1) hlive hplan hpending]
    rfl
  · rw [hexec, deliverFrameStart_of_none (s := s1) hpending, pacerFrameStart_of_waiting (s := s1) hlive hplan hpending ht,
      launchAtOnce_of_none (by simpa [skipFrame] using hpending)]
    rfl
  · intro d kept deciding lag cls
    have hdecide : deliverFrameStart s1 = launchAtOnce (decideFrame p s1) := by
      rw [deliverFrameStart_of_none (s := s1) hpending, pacerFrameStart_of_no_switch (s := s1) hlive hplan hpending ht]
    rw [hexec, hdecide]
    refine ⟨fun hwithin => ?_, fun habove => ?_⟩
    · rw [decideFrame_of_within (s := s1) hwithin, hpresented]
      rfl
    · refine congrArg (fun x => Host.Outcome.next (settlePacer x)) ?_
      rw [decideFrame_of_above (s := s1) habove]
      cases hpredict : p.predict with
      | false =>
        rw [afterSkip_of_not hpredict, launchAtOnce_of_none (by exact hpending)]
        rfl
      | true =>
        cases hlast : s.pacer.last with
        | none =>
          rw [afterSkip_of_none hpredict (by exact hlast), launchAtOnce_of_none (by exact hpending)]
          rfl
        | some l =>
          rw [afterSkip_of_last hpredict (by exact hlast) (by exact ht), launchAtOnce_of_none (by exact hpending)]
          rfl
  · have hswitch : deliverFrameStart s1 = launchAtOnce (if e ≤ s1.now + p.w then
        framePresented p (s1.now + p.w) 0 none s1.pacer.schedule s1 else skipFrame s1) := by
      rw [deliverFrameStart_of_none (s := s1) hpending, pacerFrameStart_of_switching (s := s1) hlive hplan hpending ht]
    rw [hexec, hswitch]
    refine ⟨fun hby => ?_, fun hafter => ?_⟩
    · rw [if_pos (show e ≤ s1.now + p.w from hby), hpresented]
    · rw [if_neg (show ¬e ≤ s1.now + p.w from Nat.not_le.mpr hafter), launchAtOnce_of_none (by exact hpending)]
      rfl

end Sys2Proof.Proofs.FrameStarts
end

section
/-! PROOFS. The deciding launch in its simple cases, and the predictions (O37). -/

namespace Sys2Proof.Proofs.Predictions

open Sys2Proof Sys2Proof.Machine Sys2Proof.Cert

/-! ### The deciding launch (R68) -/

theorem forcedAfter_eq_none {now d tmax : Nat} {last : Option Deciding}
    (h : ∀ l, last = some l → l.time + tmax < now ∨ d < l.time + tmax ∨ tmax < l.spacing) :
    forcedAfter now d tmax last = none := by
  refine Option.eq_none_iff_forall_ne_some.mpr fun t ht => ?_
  obtain ⟨l, hl, rfl, h1, h2, h3⟩ := forcedAfter_eq_some_iff.mp ht
  have := h l hl
  omega

theorem launchesBy_nil_of_none {now d tmax tmin fuel : Nat} {last : Option Deciding}
    (h : forcedAfter now d tmax last = none) : launchesBy now d tmax tmin (fuel + 1) last [] = last := by
  simp [launchesBy, h]

theorem launchesBy_nil_of_some {now d tmax tmin fuel t : Nat} {last : Option Deciding}
    (h : forcedAfter now d tmax last = some t) :
    launchesBy now d tmax tmin (fuel + 1) last [] = launchesBy now d tmax tmin fuel (some ⟨t, tmin, false⟩) [] := by
  simp [launchesBy, h]

/-- A scheduled entry that is not dropped, with no forced launch before it, is taken (R68). -/
theorem launchesBy_cons {now d tmax tmin fuel : Nat} {last : Option Deciding} {x : SchedEntry} {xs : List SchedEntry}
    (hforced : ∀ t, forcedAfter now d tmax last = some t → x.time ≤ t) (hdropped : droppedAfter last x = false) :
    launchesBy now d tmax tmin (fuel + 1) last (x :: xs)
      = launchesBy now d tmax tmin fuel (some ⟨x.time, tmin, false⟩) xs := by
  cases h : forcedAfter now d tmax last with
  | none => simp [launchesBy, h, hdropped]
  | some t => simp [launchesBy, h, hdropped, Nat.not_lt.mpr (hforced t h)]

/-! ### The predictions (R72) -/

theorem estimate_of_nil {periods : List Nat} (h : periods = []) : estimate periods = none := by simp [estimate, h]

theorem estimate_of_ne_nil {periods : List Nat} (h : periods ≠ []) :
    estimate periods = some (periods.sum / periods.length) := by simp [estimate, h]

/-- The predicted redraws within one estimated period p of an anchor, in m parts. -/
def redrawsOf (anchor p m : Nat) : List SchedEntry :=
  (List.range (m - 1)).map fun k => { time := anchor + (k + 1) * (p / m), reason := .predicted, kind := .redraw }

theorem redrawsOf_length (anchor p m : Nat) : (redrawsOf anchor p m).length = m - 1 := by simp [redrawsOf]

theorem redrawsOf_pairwise (anchor p m : Nat) : (redrawsOf anchor p m).Pairwise fun a b => a.time ≤ b.time := by
  refine List.pairwise_map.mpr (List.pairwise_lt_range.imp fun {i j} hij => ?_)
  show anchor + (i + 1) * (p / m) ≤ anchor + (j + 1) * (p / m)
  gcongr

theorem mem_redrawsOf {anchor p m : Nat} {x : SchedEntry} :
    x ∈ redrawsOf anchor p m ↔ x.reason = .predicted ∧ x.kind = .redraw
      ∧ ∃ k, 1 ≤ k ∧ k < m ∧ x.time = anchor + k * (p / m) := by
  simp only [redrawsOf, List.mem_map, List.mem_range]
  constructor
  · rintro ⟨k, hk, rfl⟩
    exact ⟨rfl, rfl, k + 1, by omega, by omega, rfl⟩
  · rintro ⟨hreason, hkind, k, hk, hkm, htime⟩
    refine ⟨k - 1, by omega, ?_⟩
    rcases x with ⟨time, reason, kind⟩
    simp_all [Nat.sub_add_cancel hk]

theorem predictions_of_none {anchor : Nat} {s : State} (h : estimate s.mon.periods = none) : predictions anchor s = [] := by
  simp [predictions, h]

theorem predictions_of_some {anchor p : Nat} {s : State} (h : estimate s.mon.periods = some p) :
    predictions anchor s = (redrawsOf anchor p (min 16 (ceilDiv p (currentProfile s).tmax))).filter
      fun x => decide (s.now ≤ x.time) := by
  simp only [predictions, h]
  split
  · next hm => simp [redrawsOf, show min 16 (ceilDiv p (currentProfile s).tmax) - 1 = 0 by omega]
  · rfl

/-- Settles O37: the deciding launch one step at a time, and the predictions as a filtered list of multiples. -/
theorem decidingLaunchAndPredictions : Obligations.DecidingLaunchAndPredictions := by
  intro s d tmin tmax last
  have hlast {P : Deciding → Prop} (h : ∀ l, s.pacer.last = some l →
      P { time := l.time, spacing := l.spacing, live := decide (l.kind = .live) }) : ∀ l, last = some l → P l := by
    intro l hl
    obtain ⟨l', hl', rfl⟩ := Option.map_eq_some_iff.mp hl
    exact h l' hl'
  refine ⟨fun h => ?_, fun x hd h hnow hx => ?_, fun l hl hsp hnow hd hd2 => ?_,
    fun anchor => ⟨fun h => ?_, fun h => ?_, ?_⟩⟩
  · exact launchesBy_nil_of_none (forcedAfter_eq_none (hlast (P := fun l => l.time + tmax < s.now ∨ d < l.time + tmax
      ∨ tmax < l.spacing) h))
  · have hbefore := hlast (P := fun l => l.time + l.spacing ≤ x.time
      ∧ (l.time + tmax < s.now ∨ x.time ≤ l.time + tmax ∨ tmax < l.spacing)) h
    have hdropped : droppedAfter last x = false := by
      cases hl : last with
      | none => rfl
      | some l => exact decide_eq_false (Nat.not_lt.mpr (hbefore l hl).1)
    have hforced : ∀ t, forcedAfter s.now d tmax last = some t → x.time ≤ t := by
      intro t ht
      obtain ⟨l, hl, rfl, hnow, -, hspacing⟩ := forcedAfter_eq_some_iff.mp ht
      obtain ⟨-, hor⟩ := hbefore l hl
      omega
    have hnone : forcedAfter s.now d tmax (some ⟨x.time, tmin, false⟩) = none :=
      forcedAfter_eq_none fun l hl => by cases hl; exact .inr (.inl hd)
    have hfuel : [x].length + (d - s.now) / tmax + 2 = (d - s.now) / tmax + 1 + 1 + 1 := by simp; omega
    show launchesBy s.now d tmax tmin _ last [x] = _
    rw [hfuel, launchesBy_cons hforced hdropped, launchesBy_nil_of_none hnone]
  · have hl' : last = some { time := l.time, spacing := l.spacing, live := decide (l.kind = .live) } := by
      simp [last, hl]
    have hforced : forcedAfter s.now d tmax last = some (l.time + tmax) :=
      forcedAfter_eq_some_iff.mpr ⟨_, hl', rfl, hnow, hd, hsp⟩
    have hnone : forcedAfter s.now d tmax (some ⟨l.time + tmax, tmin, false⟩) = none :=
      forcedAfter_eq_none fun l' hl' => by cases hl'; exact .inr (.inl (by show d < l.time + tmax + tmax; omega))
    show launchesBy s.now d tmax tmin _ last [] = _
    rw [launchesBy_nil_of_some hforced, launchesBy_nil_of_none hnone]
  · exact predictions_of_none (estimate_of_nil h)
  · intro est m x
    rw [predictions_of_some (estimate_of_ne_nil h), List.mem_filter, mem_redrawsOf, decide_eq_true_eq]
    constructor
    · rintro ⟨⟨hreason, hkind, hk⟩, hnow⟩
      exact ⟨hreason, hkind, hnow, hk⟩
    · rintro ⟨hreason, hkind, hnow, hk⟩
      exact ⟨⟨hreason, hkind, hk⟩, hnow⟩
  · cases hest : estimate s.mon.periods with
    | none =>
      rw [predictions_of_none hest]
      exact ⟨List.Pairwise.nil, Nat.zero_le _⟩
    | some p =>
      rw [predictions_of_some hest]
      refine ⟨(redrawsOf_pairwise _ _ _).filter _, (List.length_filter_le _ _).trans ?_⟩
      rw [redrawsOf_length]
      omega

end Sys2Proof.Proofs.Predictions
end

section
/-! PROOFS. The figures of a window, and the edits of the stage carried out (O50). -/

namespace Sys2Proof.Proofs.Edits

open Sys2Proof Sys2Proof.Machine Sys2Proof.Cert Sys2Proof.Proofs.Basics Sys2Proof.Proofs.ActiveRecord
  Sys2Proof.Proofs.ActiveRecordSteps

/-! ### Decimal digits (R142) -/

/-- The number that a list of digits spells after a number v. -/
def digitsValue (v : Nat) (digits : List Nat) : Nat := digits.foldl (fun v d => 10 * v + d) v

theorem digitsValue_digitsOf {fuel n : Nat} {acc : List Nat} (h : n < 10 ^ (fuel + 1)) :
    digitsValue 0 (digitsOf fuel n acc) = digitsValue n acc := by
  induction fuel generalizing n acc with
  | zero =>
    have hn : 10 * 0 + n % 10 = n := by omega
    exact congrArg (digitsValue · acc) hn
  | succ fuel ih =>
    unfold digitsOf
    split
    · exact congrArg (digitsValue · acc) (show 10 * 0 + n = n by omega)
    · have hdiv : n / 10 < 10 ^ (fuel + 1) := by rw [pow_succ] at h; omega
      rw [ih hdiv]
      exact congrArg (digitsValue · acc) (show 10 * (n / 10) + n % 10 = n by omega)

theorem digitsOf_lt {fuel n : Nat} {acc : List Nat} (h : ∀ d ∈ acc, d < 10) : ∀ d ∈ digitsOf fuel n acc, d < 10 := by
  induction fuel generalizing n acc with
  | zero => exact List.forall_mem_cons.mpr ⟨by omega, h⟩
  | succ fuel ih =>
    unfold digitsOf
    split
    · exact List.forall_mem_cons.mpr ⟨by assumption, h⟩
    · exact ih (List.forall_mem_cons.mpr ⟨by omega, h⟩)

theorem digitsOf_head {fuel n : Nat} {acc : List Nat} (hn : 0 < n) (h : n < 10 ^ (fuel + 1)) :
    (digitsOf fuel n acc).head? ≠ some 0 := by
  induction fuel generalizing n acc with
  | zero =>
    simp only [digitsOf, List.head?_cons, ne_eq, Option.some.injEq]
    omega
  | succ fuel ih =>
    unfold digitsOf
    split
    · simp only [List.head?_cons, ne_eq, Option.some.injEq]
      omega
    · exact ih (by omega) (by rw [pow_succ] at h; omega)

/-! ### Figures (R141, R142, R143) -/

theorem rateText_of_pos {p : Nat} (h : 0 < p) : rateText p = tenths (rate p) := by
  have hp : p ≠ 0 := by omega
  simp only [rateText, rateTenths, if_neg hp]
  rfl

theorem rowText_sourceRate_of_nil {s : State} (h : s.mon.periods = []) :
    rowText s .sourceRate = rightText [38, 38, 38, 37, 38] := by
  simp only [rowText, estimate, h]
  rfl

theorem rowText_sourceRate_of_ne_nil {s : State} (h : s.mon.periods ≠ [])
    (hpos : 0 < s.mon.periods.sum / s.mon.periods.length) :
    rowText s .sourceRate = rightText (tenths (rate (s.mon.periods.sum / s.mon.periods.length))) := by
  rw [← rateText_of_pos hpos, rowText, Predictions.estimate_of_ne_nil h]
  rfl

theorem rowText_panelRate_of_unknown {s : State} (h : s.pacer.lastInterval = none ∨ s.pacer.lastInterval = some 0) :
    rowText s .panelRate = rightText [38, 38, 38, 37, 38] := by
  obtain h | h := h <;> simp only [rowText, h] <;> rfl

theorem rowText_panelRate_of_pos {s : State} {p : Nat} (h : s.pacer.lastInterval = some p) (hp : 0 < p) :
    rowText s .panelRate = rightText (tenths (rate p)) := by
  rw [← rateText_of_pos hp]
  cases p with
  | zero => exact absurd hp (Nat.lt_irrefl 0)
  | succ n =>
    simp only [rowText, h]
    rfl

theorem activeRecord_eq (s : State) : activeRecord s = s.cat.find? fun r => r.state == .active := rfl

theorem rowText_of_stats (s : State) :
    rowText s .skipped = rightText ((((s.cat.find? fun r => r.state == .active).map (·.stats)).map fun x =>
        decimal (min x.skipped 99999999)).getD [38])
      ∧ rowText s .redraws = rightText ((((s.cat.find? fun r => r.state == .active).map (·.stats)).map fun x =>
        decimal (min (x.predicted + x.forced) 99999999)).getD [38])
      ∧ rowText s .label = leftText ((((s.cat.find? fun r => r.state == .active).bind (·.content)).map
        (·.label)).getD []) := by
  simp only [rowText, activeRecord_eq, Option.map_map]
  exact ⟨rfl, rfl, rfl⟩

theorem ite_le_eq_ite_lt {α : Type} (a b : Nat) (x y : α) : (if b ≤ a then x else y) = if a < b then y else x := by
  rw [← ite_not]
  exact if_congr (by omega) rfl rfl

/-- The figures of a window: its rows, their digits, and what a launch latches (R141 to R143). -/
theorem figuresRules : FiguresRules := by
  refine ⟨fun s base refresh sel => ⟨rfl, fun w h => rfl, rfl⟩, fun s => ?_, fun n hn => ?_, fun s => ⟨rfl, ?_⟩⟩
  · intro unknown stats label
    obtain ⟨hskipped, hredraws, hlabel⟩ := rowText_of_stats s
    exact ⟨rfl, rowText_sourceRate_of_nil, rowText_sourceRate_of_ne_nil, rowText_panelRate_of_unknown,
      fun p => rowText_panelRate_of_pos, rfl, rfl, hskipped, hredraws, hlabel⟩
  · refine ⟨digitsValue_digitsOf (fuel := 7) hn, digitsOf_lt (by simp), fun hpos => digitsOf_head hpos hn, ?_⟩
    rintro rfl
    rfl
  · intro kind hkind
    have hwindows : figuresOnLaunch kind s
        = s.setOverlay { s.overlay with windows := s.overlay.windows.map (Window.countLaunch s) } := by
      simp only [List.mem_cons, List.not_mem_nil, or_false] at hkind
      obtain rfl | rfl := hkind <;> rfl
    refine hwindows.trans (congrArg (fun ws => ({ s with overlay := { s.overlay with windows := ws } } : State))
      (List.map_congr_left fun w _ => ?_))
    rcases w with ⟨_, _ | ⟨_ | ⟨_, _, _⟩ | ⟨_, refresh, _⟩, _, _, _, _, _, _, _, _, _⟩, _, _, launches⟩
    · rfl
    · rfl
    · rfl
    · exact ite_le_eq_ite_lt (launches + 1) refresh _ _

/-! ### A deactivation leaves the locks (R27, R36) -/

theorem recordAt_map {s s' : State} {g : ModeRecord → ModeRecord} (h : s'.cat = s.cat.map g) (hfree : g .free = .free)
    (i : Nat) : recordAt s' i = g (recordAt s i) := by
  rw [recordAt, h, ← hfree, List.getD_map]
  rfl

theorem report_locked (f : Stats → Stats) (s : State) (i : Nat) :
    (recordAt (report f s) i).locked = (recordAt s i).locked := by
  rw [recordAt_map (g := fun r => if r.state = .active then { r with stats := f r.stats } else r) rfl rfl]
  split <;> rfl

theorem cancelPending_locked (s : State) (i : Nat) : (recordAt (cancelPending s) i).locked = (recordAt s i).locked := by
  unfold cancelPending
  split
  · rfl
  · have hcat : ∀ x : State, recordAt (withdrawToCome x) i = recordAt x i := fun x => by simp [recordAt]
    dsimp only
    rw [hcat]
    exact report_locked Stats.addSkipped _ i

theorem deactivate_locked (s : State) (i : Nat) : (recordAt (deactivate s) i).locked = (recordAt s i).locked := by
  unfold deactivate
  split
  · rfl
  · have hleave : recordAt (leaveLive (withdrawActive s)) i = recordAt (withdrawActive s) i := by simp [recordAt]
    rw [hleave, ← cancelPending_locked s i,
      recordAt_map (g := fun r => if r.state = .active then { r with state := .ready } else r) rfl rfl]
    split <;> rfl

/-! ### The edits -/

theorem applyStore_of_not_active {slot : Nat} {c : Content} {s : State} (h : (recordAt s slot).state ≠ .active) :
    applyStore slot c s = writeReady slot c .untested s := if_neg h

theorem applyStore_of_active {slot : Nat} {c : Content} {s : State} (h : (recordAt s slot).state = .active) :
    applyStore slot c s = replaceActive slot c s := if_pos h

theorem applyRetire_of_free {slot : Nat} {s : State} (h : (recordAt s slot).state = .free) : applyRetire slot s = s := by
  simp [applyRetire, h]

theorem applyRetire_of_ready {slot : Nat} {s : State} (h : (recordAt s slot).state = .ready) :
    applyRetire slot s = emptySlot slot s := by
  simp [applyRetire, h]

theorem applyRetire_of_active {slot : Nat} {s : State} (h : (recordAt s slot).state = .active) :
    applyRetire slot s = emptySlot slot (deactivate s) := by
  simp [applyRetire, h]

theorem applyPlace_of_defined {win x y z alpha : Nat} {d : WindowDef} {s : State} (h : (windowAt s win).state ≠ .free)
    (hd : (windowAt s win).definition = some d) :
    applyPlace win x y z alpha s = setWindow win
      { windowAt s win with definition := some { d with x := x, y := y, z := z, alpha := alpha } } s := by
  cases hst : (windowAt s win).state <;> simp_all [applyPlace]

theorem applyPlace_of_free {win x y z alpha : Nat} {s : State} (h : (windowAt s win).state = .free) :
    applyPlace win x y z alpha s = s := by simp [applyPlace, h]

/-- Settles O50: the figures first, then each edit by what its target is. -/
theorem editsAreCarriedOut : Obligations.EditsAreCarriedOut := by
  refine ⟨figuresRules, fun s slot win c => ?_⟩
  intro r w ready record window matches_
  have hmatches : contentMatches c s = true ↔ matches_ := contentMatches_iff c s
  have hready (fit : Fit) : writeReady slot c fit (deactivate s) = record (ready fit) (deactivate s) := by
    rw [writeReady, deactivate_locked]
    rfl
  have hempty : emptySlot slot (deactivate s) = record { ModeRecord.free with locked := r.locked } (deactivate s) := by
    rw [emptySlot, deactivate_locked]
    rfl
  refine ⟨applyStore_of_not_active, fun hst hno => ?_, fun reason hst hm hplan => ?_, fun plan hst hm hplan => ?_,
    applyRetire_of_free, applyRetire_of_ready, fun hst => (applyRetire_of_active hst).trans hempty, fun d => rfl,
    fun d x y z alpha hst hd => applyPlace_of_defined hst hd, fun shown hst => if_neg hst, fun hst => if_neg hst,
    fun hst => ⟨fun x y z alpha => applyPlace_of_free hst, fun shown => if_pos hst, if_pos hst⟩, fun colour => rfl⟩
  · refine (applyStore_of_active hst).trans ((if_neg (mt hmatches.mp hno)).trans (hready .untested))
  · refine (applyStore_of_active hst).trans ((if_pos (hmatches.mpr hm)).trans ?_)
    rw [hplan]
    exact hready (.unfit reason)
  · refine (applyStore_of_active hst).trans ((if_pos (hmatches.mpr hm)).trans ?_)
    rw [hplan]
    rfl

end Sys2Proof.Proofs.Edits
end

section
/-! PROOFS. A loss of the signal (O42). -/

namespace Sys2Proof.Proofs.Losses

open Sys2Proof Sys2Proof.Machine Sys2Proof.Cert Sys2Proof.Proofs.Basics Sys2Proof.Proofs.ActiveRecord
  Sys2Proof.Proofs.PartReset Sys2Proof.Proofs.Launches

/-! ### The line store at a deactivation (R102, R103) -/

theorem fillOut_eq (l : LineStore) :
    fillOut l = { l with entries := l.entries.map fun e =>
      if e.phase = .scanning then { e with mode := .fillOut, storing := false } else e } := by
  simp [fillOut, mapEntries]

theorem withdrawEntry_of_decided {l : LineStore} {e : FrameEntry} (h : decidedEntry l = some e) :
    withdrawEntry l = {
      slots := l.slots.map fun x => if x.state ≠ .free ∧ x.tag = e.tag then { x with state := .free } else x
      entries := l.entries.filter fun e => decide (e.phase ≠ .decided) } := by
  simp only [withdrawEntry, h, releaseTag_eq, decide_not]
  rfl

/-- With no DECIDED entry the filter that would remove it keeps every entry. -/
theorem withdrawEntry_of_none {l : LineStore} (h : decidedEntry l = none) :
    withdrawEntry l = { l with entries := l.entries.filter fun e => decide (e.phase ≠ .decided) } := by
  have hkept : l.entries.filter (fun e => decide (e.phase ≠ .decided)) = l.entries :=
    List.filter_eq_self.mpr (by simpa [decidedEntry] using h)
  rw [hkept]
  simp [withdrawEntry, h]

theorem withdrawEntry_entries (l : LineStore) :
    (withdrawEntry l).entries = l.entries.filter fun e => decide (e.phase ≠ .decided) := by
  cases h : decidedEntry l with
  | none => rw [withdrawEntry_of_none h]
  | some e => rw [withdrawEntry_of_decided h]

/-! ### The steps of a deactivation (R36, R74) -/

theorem cancelPending_of_none {s : State} (h : s.pacer.pending = none) : cancelPending s = s := by simp [cancelPending, h]

/-- A pending live launch cancelled: the frame counted and signalled as skipped, and its lines released (R74, R103). -/
theorem cancelPending_of_some {s : State} {x : PendingLaunch} (h : s.pacer.pending = some x) :
    (cancelPending s).cat = (counted (fun c => { c with skipped := more c.skipped }) s).cat
      ∧ (cancelPending s).store = withdrawEntry s.store ∧ (cancelPending s).ev.flags = s.ev.flags ||| 0x0080#16 := by
  simp only [cancelPending, h]
  simp only [withdrawToCome_frame]
  exact ⟨rfl, rfl, rfl⟩

theorem currentProfile_congr {s s' : State} (hp : s'.panel.profiles = s.panel.profiles)
    (hc : s'.panel.current = s.panel.current) : currentProfile s' = currentProfile s := by
  simp only [currentProfile, profileAt, hp, hc]

theorem leaveLive_of_hold {s : State} (h : 0 < s.pacer.holdTime) (hr : (currentProfile s).redraw = true) :
    (leaveLive s).pacer.state = .hold
      ∧ (leaveLive s).pacer.holdTimer = .running (s.now + s.pacer.holdTime * 10000000) := by
  rw [leaveLive, if_pos ⟨h, hr⟩]
  exact ⟨rfl, rfl⟩

theorem leaveLive_of_not_hold {s : State} (h : s.pacer.holdTime = 0 ∨ (currentProfile s).redraw = false) :
    (leaveLive s).pacer.state = .freeRun := by
  have hnot : ¬(0 < s.pacer.holdTime ∧ (currentProfile s).redraw = true) := by
    rintro ⟨h1, h2⟩
    obtain h | h := h
    · omega
    · rw [h] at h2
      cases h2
  rw [leaveLive, if_neg hnot]
  rfl

theorem deactivate_of_active {s : State} (h : ∃ r ∈ s.cat, r.state = .active) :
    deactivate s = leaveLive (withdrawActive s) := by
  refine if_neg fun hnone => ?_
  obtain ⟨r, hr, hact⟩ := h
  exact (activeSlot_isNone_iff s).mp hnone r hr hact

/-- What a deactivation, and the evaluation of the pacer's timers that ends the command, leave of the events, the catalogue and
the line store (R36, R102). -/
theorem deactivated_fields (s : State) :
    (settlePacer (leaveLive (withdrawActive s))).ev.flags = (cancelPending s).ev.flags
      ∧ (settlePacer (leaveLive (withdrawActive s))).cat
        = (cancelPending s).cat.map (fun r => if r.state = .active then { r with state := .ready } else r)
      ∧ (settlePacer (leaveLive (withdrawActive s))).store = fillOut (cancelPending s).store := by
  simp only [settlePacer_frame, leaveLive_frame]
  exact ⟨rfl, rfl, rfl⟩

/-! ### The loss (R12) -/

/-- The state a loss is declared in: the monitor cleared, LOST set, and nothing else changed. -/
def lostState (s : State) : State := flagged 2 { s with mon := { State.reset.mon with lossLatch := true } }

theorem declareLoss_of_signal {s : State} (h : s.mon.state ≠ .noSignal) : declareLoss s = deactivate (lostState s) := by
  unfold declareLoss
  split
  · next h' => exact absurd h' h
  all_goals rfl

theorem lossFrom_of_ignored {s : State} (h : s.mon.state = .noSignal ∨ s.ctl.phase = .starting) : lossFrom s = s := by
  unfold lossFrom
  split
  · next hphase =>
    have hmon : s.mon.state = .noSignal := h.resolve_right (by simp [hphase])
    simp [declareLoss, hmon]
  · rfl

/-- Settles O42: the monitor is cleared, and then the deactivation, by whether a launch was pending. -/
theorem lossClearsTheMonitor : Obligations.LossClearsTheMonitor := by
  intro t s
  refine ⟨fun h => ?_, fun hmon c now hc => ?_⟩
  · exact congrArg (fun x => Host.Outcome.next (settlePacer x)) (lossFrom_of_ignored (s := tick t s) h)
  · intro lost
    have hexec : exec c s = .next (settlePacer (deactivate lost)) := by
      obtain ⟨rfl, hphase, rfl⟩ | ⟨e, rfl, htimer, rfl⟩ := hc
      · have hloss : lossFrom (tick t s) = declareLoss (tick t s) := if_pos hphase
        exact congrArg (fun x => Host.Outcome.next (settlePacer x)) (hloss.trans (declareLoss_of_signal hmon))
      · show execFrameStartTimerExpiry s = _
        simp only [execFrameStartTimerExpiry, htimer]
        rw [declareLoss_of_signal (s := tick e s) hmon]
        rfl
    refine ⟨fun hnone => ?_, fun hactive => ?_⟩
    · rw [hexec, deactivate_of_none (s := lost) hnone]
    · rw [deactivate_of_active (s := lost) hactive] at hexec
      have hpacer := withdrawActive_pacer lost
      have hprofile : currentProfile (withdrawActive lost) = currentProfile s :=
        currentProfile_congr (by simp [lost, flagged]) (by simp [lost, flagged])
      have hholdTime : (withdrawActive lost).pacer.holdTime = s.pacer.holdTime := by
        rw [hpacer]
        rfl
      have hdeact := deactivated_fields lost
      refine ⟨_, hexec, by simp, noneActive_congr (noneActive_withdrawActive lost) (by simp) (by simp), ?_, ?_, ?_, ?_, ?_,
        fun hhold hredraw => ?_, fun hno => ?_, by simp [lost, flagged], by simp [lost, flagged], by simp [lost, flagged],
        by simp [lost, flagged], by simp [lost, flagged], by simp [lost, flagged], by simp [lost, flagged]⟩
      · have hpending : (settlePacer (leaveLive (withdrawActive lost))).pacer.pending
            = (withdrawActive lost).pacer.pending := by simp
        rw [hpending, hpacer]
      · rw [hdeact.1]
        cases hp : s.pacer.pending with
        | none =>
          rw [cancelPending_of_none (s := lost) hp]
          rfl
        | some x =>
          obtain ⟨-, -, hev⟩ := cancelPending_of_some (s := lost) hp
          rw [hev]
          exact BitVec.or_assoc _ _ _
      · rw [hdeact.2.1]
        cases hp : s.pacer.pending with
        | none =>
          rw [cancelPending_of_none (s := lost) hp]
          rfl
        | some x =>
          obtain ⟨hcat, -, -⟩ := cancelPending_of_some (s := lost) hp
          rw [hcat]
          refine (List.map_map ..).trans (List.map_congr_left fun r _ => ?_)
          by_cases hr : r.state = .active <;> simp [hr]
      · rw [hdeact.2.2, fillOut_eq]
        cases hp : s.pacer.pending with
        | none =>
          rw [cancelPending_of_none (s := lost) hp]
          rfl
        | some x =>
          obtain ⟨-, hstore, -⟩ := cancelPending_of_some (s := lost) hp
          rw [hstore]
          cases hd : s.store.entries.find? (fun e => e.phase == .decided) with
          | none =>
            rw [withdrawEntry_of_none (l := lost.store) hd]
            rfl
          | some e =>
            rw [withdrawEntry_of_decided (l := lost.store) hd]
            rfl
      · rw [hdeact.2.2, fillOut_eq]
        cases hp : s.pacer.pending with
        | none =>
          rw [cancelPending_of_none (s := lost) hp]
          rfl
        | some x =>
          obtain ⟨-, hstore, -⟩ := cancelPending_of_some (s := lost) hp
          rw [hstore, withdrawEntry_entries]
          rfl
      · obtain ⟨hstate, htimer⟩ := leaveLive_of_hold (s := withdrawActive lost) (by rwa [hholdTime]) (by rwa [hprofile])
        rw [hholdTime, show (withdrawActive lost).now = now by simp [lost, flagged]] at htimer
        exact ⟨hstate, htimer⟩
      · rw [← hholdTime, ← hprofile] at hno
        exact leaveLive_of_not_hold hno

end Sys2Proof.Proofs.Losses
end

section
/-! PROOFS. The windows of a panel line: ranked, merged and dropped (O56). -/

namespace Sys2Proof.Proofs.WindowRanking

open Sys2Proof Sys2Proof.Machine Sys2Proof.Cert Sys2Proof.Proofs.Basics

/-! ### Eligibility and rank (R124, R131, R132) -/

theorem bindingDraws_iff (s : State) (binding : Option Nat) :
    bindingDraws s binding = true ↔ ∀ slot, binding = some slot → (recordAt s slot).state = .active := by
  cases binding <;> simp [bindingDraws]

theorem eligible_eq_some_iff {s : State} {wp y : Nat} {w : Window} {d : WindowDef} :
    eligible s wp y w = some d ↔ w.state = .shown ∧ w.definition = some d
      ∧ (∀ slot, d.binding = some slot → (recordAt s slot).state = .active) ∧ d.y ≤ y ∧ y < d.y + d.h ∧ d.x < wp := by
  rw [← bindingDraws_iff]
  rcases w with ⟨state, definition, _, _, _⟩
  cases state <;> cases definition <;> simp [eligible]
  constructor
  · rintro ⟨h, rfl⟩
    exact ⟨rfl, h⟩
  · rintro ⟨rfl, h⟩
    exact ⟨h, rfl⟩

/-- A window is eligible on a line and lies at depth z (R132). -/
def atRank (s : State) (wp y z n : Nat) : Bool := ((eligible s wp y (windowAt s n)).map fun d => d.z == z).getD false

theorem atRank_iff {s : State} {wp y z n : Nat} :
    atRank s wp y z n = true ↔ ∃ d, eligible s wp y (windowAt s n) = some d ∧ d.z = z := by
  unfold atRank
  cases eligible s wp y (windowAt s n) <;> simp

theorem rankedWindows_eq (s : State) (wp y : Nat) :
    rankedWindows s wp y = (List.range 16).reverse.flatMap fun z => (List.range 16).reverse.filter (atRank s wp y z) := by
  unfold rankedWindows
  refine List.flatMap_congr fun z _ => List.filter_congr fun n _ => ?_
  unfold atRank
  cases eligible s wp y (windowAt s n) <;> rfl

theorem mem_rankedWindows {s : State} {wp y n : Nat} :
    n ∈ rankedWindows s wp y ↔ n < 16 ∧ ∃ d, eligible s wp y (windowAt s n) = some d ∧ d.z < 16 := by
  simp only [rankedWindows_eq, List.mem_flatMap, List.mem_reverse, List.mem_range, List.mem_filter, atRank_iff]
  constructor
  · rintro ⟨z, hz, hn, d, hd, rfl⟩
    exact ⟨hn, d, hd, hz⟩
  · rintro ⟨hn, d, hd, hz⟩
    exact ⟨d.z, hz, hn, d, hd, rfl⟩

/-- One window ranks before another: it lies higher, or as high with a higher number (R132). -/
def RanksBefore (s : State) (a b : Nat) : Prop :=
  ∀ da db, (windowAt s a).definition = some da → (windowAt s b).definition = some db →
    db.z < da.z ∨ (da.z = db.z ∧ b < a)

theorem range_reverse_pairwise (n : Nat) : (List.range n).reverse.Pairwise fun a b => b < a :=
  List.pairwise_reverse.mpr List.pairwise_lt_range

theorem z_of_atRank {s : State} {wp y z n : Nat} {d : WindowDef} (h : atRank s wp y z n = true)
    (hd : (windowAt s n).definition = some d) : d.z = z := by
  obtain ⟨d', hd', hz⟩ := atRank_iff.mp h
  obtain ⟨-, hd'', -⟩ := eligible_eq_some_iff.mp hd'
  rw [hd] at hd''
  cases hd''
  exact hz

theorem rankedWindows_pairwise (s : State) (wp y : Nat) : (rankedWindows s wp y).Pairwise (RanksBefore s) := by
  rw [rankedWindows_eq]
  refine List.pairwise_flatMap.mpr ⟨fun z _ => ?_, (range_reverse_pairwise 16).imp
    fun {z z'} hz a ha b hb da db hda hdb => ?_⟩
  · refine List.Pairwise.imp_of_mem (fun {a b} ha hb hba da db hda hdb => ?_) ((range_reverse_pairwise 16).filter _)
    rw [z_of_atRank (List.mem_filter.mp ha).2 hda, z_of_atRank (List.mem_filter.mp hb).2 hdb]
    exact .inr ⟨rfl, hba⟩
  · rw [z_of_atRank (List.mem_filter.mp ha).2 hda, z_of_atRank (List.mem_filter.mp hb).2 hdb]
    exact .inl hz

theorem rankedWindows_nodup (s : State) (wp y : Nat) : (rankedWindows s wp y).Nodup := by
  refine (rankedWindows_pairwise s wp y).imp_of_mem fun {a b} ha _ hab => ?_
  rintro rfl
  obtain ⟨-, d, hd, -⟩ := mem_rankedWindows.mp ha
  obtain ⟨-, hdef, -⟩ := eligible_eq_some_iff.mp hd
  have := hab d d hdef hdef
  omega

/-- A window that is not FREE is one of the table's. -/
theorem windowAt_mem {s : State} {n : Nat} (h : (windowAt s n).state ≠ .free) : windowAt s n ∈ s.overlay.windows := by
  by_cases hn : n < s.overlay.windows.length
  · simp [windowAt, hn]
  · exact absurd (by simp [windowAt, hn, Window.free]) h

/-! ### The merge (R134) -/

theorem mergeLine_length (s : State) (wp y : Nat) (base : List Colour) : (mergeLine s wp y base).length = base.length := by
  simp [mergeLine]

theorem mergeLine_getElem? {s : State} {wp y x : Nat} {base : List Colour} {pic : Colour} (h : base[x]? = some pic) :
    (mergeLine s wp y base)[x]? = some ((mergedWindows s wp y).foldr
      (fun n under => mergePixel s.overlay.image (windowAt s n) x y under) pic) := by
  have hx : x < base.length := (List.getElem?_eq_some_iff.mp h).1
  have hpair : (base.zip (List.range base.length))[x]? = some (pic, x) :=
    List.getElem?_zip_eq_some.mpr ⟨h, by simp [hx]⟩
  simp only [mergeLine, List.getElem?_map, hpair, Option.map_some]
  rw [List.map_reverse, List.foldl_reverse, List.foldr_map]

/-! ### The dropped windows (R132) -/

/-- A window left out of a line. -/
def leftOut (w : Window) : Window := { w with dropped := min 65535 (w.dropped + 1) }

/-- Windows left out of a line. -/
def allLeftOut (wins : List Nat) (s : State) : State :=
  { s with
    overlay := { s.overlay with
      windows := (List.range 16).map fun n => if n ∈ wins then leftOut (windowAt s n) else windowAt s n }
    ev := { s.ev with flags := if wins = [] then s.ev.flags else s.ev.flags ||| 0x0400#16 } }

theorem windowAt_dropLine {win n : Nat} {s : State} (h : win < s.overlay.windows.length) :
    windowAt (dropLine win s) n = if n = win then leftOut (windowAt s win) else windowAt s n :=
  (windowAt_setWindow win n (leftOut (windowAt s win)) s).trans (if_congr (and_iff_left h) rfl rfl)

theorem windows_eq_map {s : State} (h : s.overlay.windows.length = 16) :
    s.overlay.windows = (List.range 16).map (windowAt s) := by
  refine List.ext_getElem (by simp [h]) fun i hi hi' => ?_
  simp [windowAt, hi]

theorem dropLines_eq {wins : List Nat} {s : State} (hnodup : wins.Nodup) (hlt : ∀ n ∈ wins, n < 16)
    (h : s.overlay.windows.length = 16) : dropLines wins s = allLeftOut wins s := by
  induction wins generalizing s with
  | nil =>
    have hwindows : ((List.range 16).map fun n => if n ∈ ([] : List Nat) then leftOut (windowAt s n) else windowAt s n)
        = s.overlay.windows := by
      rw [windows_eq_map h]
      simp
    rw [allLeftOut, hwindows]
    rfl
  | cons win wins ih =>
    obtain ⟨hnot, hnodup'⟩ := List.nodup_cons.mp hnodup
    obtain ⟨hwin, hlt'⟩ := List.forall_mem_cons.mp hlt
    have hat (n : Nat) : windowAt (dropLine win s) n = if n = win then leftOut (windowAt s win) else windowAt s n :=
      windowAt_dropLine (by omega)
    have hwindow (n : Nat) : (if n ∈ wins then leftOut (windowAt (dropLine win s) n) else windowAt (dropLine win s) n)
        = if n ∈ win :: wins then leftOut (windowAt s n) else windowAt s n := by
      rw [hat]
      by_cases hn : n = win
      · subst hn
        simp [hnot]
      · simp [hn]
    have hflags : (if wins = [] then (dropLine win s).ev.flags else (dropLine win s).ev.flags ||| 0x0400#16)
        = s.ev.flags ||| 0x0400#16 := by
      split
      · rfl
      · exact (BitVec.or_assoc _ _ _).trans (congrArg _ (BitVec.or_self))
    refine (ih (s := dropLine win s) hnodup' hlt' (by simp [h])).trans ?_
    rw [allLeftOut, hflags, funext hwindow]
    rfl

/-- Settles O56: the ranking is a list by falling z and number, and the dropped windows are counted one by one. -/
theorem windowsAreRanked : Obligations.WindowsAreRanked := by
  intro s wp y hz
  refine ⟨fun n => ?_, rankedWindows_pairwise s wp y, List.take_append_drop 4 _, List.length_take_le 4 _, fun hne => ?_,
    fun base => ⟨mergeLine_length s wp y base, fun x pic hpic => mergeLine_getElem? hpic⟩, fun hlen => ?_⟩
  · rw [mem_rankedWindows]
    refine and_congr_right fun hn => exists_congr fun d => ?_
    rw [eligible_eq_some_iff, and_iff_left_of_imp]
    rintro ⟨hst, hd, -⟩
    exact Nat.lt_succ_of_le (hz _ (windowAt_mem (by simp [hst])) d hd)
  · have hlt : 4 < (rankedWindows s wp y).length := by
      by_contra hle
      exact hne (List.drop_eq_nil_of_le (Nat.not_lt.mp hle))
    rw [mergedWindows, List.length_take]
    omega
  · have hsub : (droppedWindows s wp y).Sublist (rankedWindows s wp y) := List.drop_sublist 4 _
    exact dropLines_eq ((rankedWindows_nodup s wp y).sublist hsub)
      (fun n hn => (mem_rankedWindows.mp (hsub.subset hn)).1) hlen

end Sys2Proof.Proofs.WindowRanking
end

section
/-! PROOFS. Pixels: stored, filtered, found in windows, and sent (O55). -/

namespace Sys2Proof.Proofs.Pixels

open Sys2Proof Sys2Proof.Machine Sys2Proof.Cert

/-! ### Pixels stored (R92) -/

theorem widen_d8_le (wires : BitVec 10) : widen .d8 wires ≤ 1023 := by
  have := wires.isLt
  simp only [widen]
  omega

theorem widen_d10_le (wires : BitVec 10) : widen .d10 wires ≤ 1023 := by
  have := wires.isLt
  simp only [widen]
  omega

theorem appendPixels_of_full {format : Format} {depth : Depth} {win : Nat} {px : List Colour} (h : win ≤ px.length)
    (ps : List RawPixel) : appendPixels format depth win px ps = px := by
  induction ps with
  | nil => rfl
  | cons p ps ih => rw [appendPixels, if_neg (Nat.not_lt.mpr h), ih]

/-- The pixel appended to a line: in HALF an odd-numbered one takes its second and third components from the one before. -/
theorem appendPixel_eq (format : Format) (depth : Depth) (px : List Colour) (p : RawPixel) :
    appendPixel format depth px p = px ++ [⟨widen depth p.c0,
      if format = .half ∧ px.length % 2 = 1 then (px.getLast?.map (·.c1)).getD 0 else widen depth p.c1,
      if format = .half ∧ px.length % 2 = 1 then (px.getLast?.map (·.c2)).getD 0 else widen depth p.c2⟩] := by
  cases format with
  | full => simp [appendPixel]
  | half =>
    rcases Nat.mod_two_eq_zero_or_one px.length with heven | hodd
    · simp [appendPixel, heven]
    · obtain ⟨before, hbefore⟩ : ∃ c, px.getLast? = some c := by
        cases hlast : px.getLast? with
        | none => simp [List.getLast?_eq_none_iff.mp hlast] at hodd
        | some c => exact ⟨c, rfl⟩
      simp [appendPixel, hodd, hbefore]

theorem storedPixelRules : StoredPixelRules := by
  intro format depth win px p ps level
  have hlevel : level = widen depth := by
    funext wires
    cases depth <;> rfl
  refine ⟨rfl, fun h => appendPixels_of_full h _, fun h => ?_⟩
  rw [appendPixels, if_pos h, appendPixel_eq, hlevel]

/-! ### The filter (R99, R100) -/

theorem clampInt_toNat (v : Int) : ((clampInt v 0 1023).toNat : Int) = max 0 (min 1023 v) := by
  unfold clampInt
  split
  · omega
  · split <;> omega

theorem filterTaps_eq (phase t0 t1 t2 t3 : Nat) :
    (filterTaps phase t0 t1 t2 t3 : Int) = max 0 (min 1023 (((weights phase).1 * t0 + (weights phase).2.1 * t1
      + (weights phase).2.2.1 * t2 + (weights phase).2.2.2 * t3 + 32) / 64)) := clampInt_toNat _

theorem weights_of_table {phase : Nat} {w : Int × Int × Int × Int} (h : weightTable[phase]? = some w) :
    weights phase = w := by
  have hall : ∀ i : Fin 16, weightTable[i.val]? = some (weights i.val) := by decide
  have hlt : phase < 16 := (List.getElem?_eq_some_iff.mp h).1
  exact Option.some_injective _ ((hall ⟨phase, hlt⟩).symm.trans h)

/-- The weights of a phase sum to 64 (R100). -/
theorem weights_sum (phase : Nat) :
    (weights phase).1 + (weights phase).2.1 + (weights phase).2.2.1 + (weights phase).2.2.2 = 64 := by
  unfold weights
  split <;> rfl

theorem filterTaps_le (phase t0 t1 t2 t3 : Nat) : filterTaps phase t0 t1 t2 t3 ≤ 1023 := by
  have := filterTaps_eq phase t0 t1 t2 t3
  omega

theorem filterTaps_zero {t1 : Nat} (h : t1 ≤ 1023) (t0 t2 t3 : Nat) : filterTaps 0 t0 t1 t2 t3 = t1 := by
  have := filterTaps_eq 0 t0 t1 t2 t3
  simp only [weights] at this
  omega

/-- Four equal taps give the same value, as the weights sum to 64. -/
theorem filterTaps_same {t : Nat} (h : t ≤ 1023) (phase : Nat) : filterTaps phase t t t t = t := by
  have hfilter := filterTaps_eq phase t t t t
  have hsum : (weights phase).1 * t + (weights phase).2.1 * t + (weights phase).2.2.1 * t + (weights phase).2.2.2 * t
      = 64 * (t : Int) := by
    rw [← weights_sum phase]
    ring
  rw [hsum] at hfilter
  omega

/-! ### Taps (R97, R98) -/

theorem highestOf_eq_none {l : List LineSlot} : highestOf l = none ↔ l = [] := by
  cases l with
  | nil => simp [highestOf]
  | cons x xs =>
    unfold highestOf
    split
    · simp
    · split <;> simp

theorem highestOf_spec {l : List LineSlot} {x : LineSlot} (h : highestOf l = some x) :
    x ∈ l ∧ ∀ y ∈ l, y.line ≤ x.line := by
  induction l generalizing x with
  | nil => simp [highestOf] at h
  | cons a l ih =>
    unfold highestOf at h
    split at h
    · next hnone =>
      rw [highestOf_eq_none.mp hnone]
      cases h
      simp
    · next b hb =>
      obtain ⟨hmem, hmax⟩ := ih hb
      split at h
      · cases h
        exact ⟨List.mem_cons_self, List.forall_mem_cons.mpr ⟨Nat.le_refl _, fun y hy => (hmax y hy).trans (by omega)⟩⟩
      · cases h
        exact ⟨List.mem_cons_of_mem a hmem, List.forall_mem_cons.mpr ⟨by omega, hmax⟩⟩

theorem lowestOf_eq_none {l : List LineSlot} : lowestOf l = none ↔ l = [] := by
  cases l with
  | nil => simp [lowestOf]
  | cons x xs =>
    unfold lowestOf
    split
    · simp
    · split <;> simp

theorem lowestOf_spec {l : List LineSlot} {x : LineSlot} (h : lowestOf l = some x) :
    x ∈ l ∧ ∀ y ∈ l, x.line ≤ y.line := by
  induction l generalizing x with
  | nil => simp [lowestOf] at h
  | cons a l ih =>
    unfold lowestOf at h
    split at h
    · next hnone =>
      rw [lowestOf_eq_none.mp hnone]
      cases h
      simp
    · next b hb =>
      obtain ⟨hmem, hmin⟩ := ih hb
      split at h
      · cases h
        exact ⟨List.mem_cons_self, List.forall_mem_cons.mpr ⟨Nat.le_refl _, fun y hy => Nat.le_trans (by omega) (hmin y hy)⟩⟩
      · cases h
        exact ⟨List.mem_cons_of_mem a hmem, List.forall_mem_cons.mpr ⟨by omega, hmin⟩⟩

/-- A slot holds a line for an entry (R88, R97). -/
def HeldFor (e : FrameEntry) (slots : List LineSlot) (x : LineSlot) : Prop := x ∈ slots ∧ x.state = .held ∧ x.tag = e.tag

theorem mem_heldLines {e : FrameEntry} {slots : List LineSlot} {x : LineSlot} :
    x ∈ heldLines e slots ↔ HeldFor e slots x := by
  simp [heldLines, HeldFor]

theorem any_held_iff {e : FrameEntry} {slots : List LineSlot} {line : Nat} :
    slots.any (fun x => x.state == .held && x.tag == e.tag && x.line == line) = true
      ↔ ∃ x, HeldFor e slots x ∧ x.line = line := by
  simp [HeldFor, and_assoc]

theorem any_filling_iff {e : FrameEntry} {slots : List LineSlot} {line : Nat} :
    slots.any (fun x => x.state == .filling && x.tag == e.tag && x.line == line) = true
      ↔ ∃ x ∈ slots, x.state = .filling ∧ x.tag = e.tag ∧ x.line = line := by
  simp [and_assoc]

theorem tapState_held_iff {e : FrameEntry} {slots : List LineSlot} {line : Nat} :
    tapState e slots line = .held ↔ ∃ x, HeldFor e slots x ∧ x.line = line := by
  rw [← any_held_iff]
  unfold tapState
  split
  · simp_all
  · split <;> simp_all

theorem tapState_notArrived_iff {e : FrameEntry} {slots : List LineSlot} {line : Nat} :
    tapState e slots line = .notArrived ↔ (¬∃ x, HeldFor e slots x ∧ x.line = line)
      ∧ (e.begun ≤ line ∨ ∃ x ∈ slots, x.state = .filling ∧ x.tag = e.tag ∧ x.line = line) := by
  rw [← any_held_iff, ← any_filling_iff]
  unfold tapState
  split
  · simp_all
  · split <;> simp_all

theorem tapSource_of_held {e : FrameEntry} {slots : List LineSlot} {line : Nat} (h : tapState e slots line = .held) :
    ∃ x, HeldFor e slots x ∧ x.line = line ∧ tapSource e slots line = some x := by
  obtain ⟨x, hx, hline⟩ := tapState_held_iff.mp h
  have hsource : tapSource e slots line = (heldLines e slots).find? (·.line == line) := by simp [tapSource, h]
  cases hfind : (heldLines e slots).find? (·.line == line) with
  | none => exact absurd hline (by simpa using List.find?_eq_none.mp hfind x (mem_heldLines.mpr hx))
  | some y =>
    have hy : y.line = line := by simpa using List.find?_some hfind
    exact ⟨y, mem_heldLines.mp (List.mem_of_find?_eq_some hfind), hy, hsource.trans hfind⟩

theorem heldLines_eq_nil {e : FrameEntry} {slots : List LineSlot} (h : ∀ x, ¬HeldFor e slots x) :
    heldLines e slots = [] :=
  List.eq_nil_iff_forall_not_mem.mpr fun x hx => h x (mem_heldLines.mp hx)

theorem exists_highestOf {l : List LineSlot} {x : LineSlot} (h : x ∈ l) : ∃ y, highestOf l = some y := by
  cases hl : highestOf l with
  | none => rw [highestOf_eq_none.mp hl] at h; cases h
  | some y => exact ⟨y, rfl⟩

theorem exists_lowestOf {l : List LineSlot} {x : LineSlot} (h : x ∈ l) : ∃ y, lowestOf l = some y := by
  cases hl : lowestOf l with
  | none => rw [lowestOf_eq_none.mp hl] at h; cases h
  | some y => exact ⟨y, rfl⟩

/-- A tap not yet arrived is read from the highest held line, if there is one (R97). -/
theorem tapSource_of_notArrived {e : FrameEntry} {slots : List LineSlot} {line : Nat}
    (h : tapState e slots line = .notArrived) :
    ((∀ x, ¬HeldFor e slots x) → tapSource e slots line = none)
    ∧ ((∃ x, HeldFor e slots x) → ∃ x, HeldFor e slots x ∧ (∀ y, HeldFor e slots y → y.line ≤ x.line)
        ∧ tapSource e slots line = some x) := by
  have hsource : tapSource e slots line = highestOf (heldLines e slots) := by simp [tapSource, h]
  refine ⟨fun hnone => ?_, fun ⟨x, hx⟩ => ?_⟩
  · rw [hsource, heldLines_eq_nil hnone]
    rfl
  · obtain ⟨y, hy⟩ := exists_highestOf (mem_heldLines.mpr hx)
    obtain ⟨hmem, hmax⟩ := highestOf_spec hy
    exact ⟨y, mem_heldLines.mp hmem, fun z hz => hmax z (mem_heldLines.mpr hz), hsource.trans hy⟩

theorem mem_heldBelow {e : FrameEntry} {slots : List LineSlot} {line : Nat} {x : LineSlot} :
    x ∈ (heldLines e slots).filter (·.line < line) ↔ HeldFor e slots x ∧ x.line < line := by
  simp [mem_heldLines]

theorem mem_heldAbove {e : FrameEntry} {slots : List LineSlot} {line : Nat} {x : LineSlot} :
    x ∈ (heldLines e slots).filter (line < ·.line) ↔ HeldFor e slots x ∧ line < x.line := by
  simp [mem_heldLines]

/-- A lost tap is read from the nearest held line below it, or else from the lowest held line above it (R98). -/
theorem tapSource_of_lost {e : FrameEntry} {slots : List LineSlot} {line : Nat} (h : tapState e slots line = .lost) :
    ((∀ x, ¬HeldFor e slots x) → tapSource e slots line = none)
    ∧ ((∃ x, HeldFor e slots x ∧ x.line < line) → ∃ x, HeldFor e slots x ∧ x.line < line
        ∧ (∀ y, HeldFor e slots y → y.line < line → y.line ≤ x.line) ∧ tapSource e slots line = some x)
    ∧ ((∃ x, HeldFor e slots x) → (∀ x, HeldFor e slots x → line < x.line) → ∃ x, HeldFor e slots x
        ∧ (∀ y, HeldFor e slots y → x.line ≤ y.line) ∧ tapSource e slots line = some x) := by
  have hbelow {x : LineSlot} (hx : highestOf ((heldLines e slots).filter (·.line < line)) = some x) :
      tapSource e slots line = some x := by simp only [tapSource, h, hx]
  have habove (hx : highestOf ((heldLines e slots).filter (·.line < line)) = none) :
      tapSource e slots line = lowestOf ((heldLines e slots).filter (line < ·.line)) := by simp only [tapSource, h, hx]
  refine ⟨fun hnone => ?_, fun ⟨x, hx⟩ => ?_, fun ⟨x, hx⟩ hall => ?_⟩
  · rw [habove (by rw [heldLines_eq_nil hnone]; rfl), heldLines_eq_nil hnone]
    rfl
  · obtain ⟨y, hy⟩ := exists_highestOf (mem_heldBelow.mpr hx)
    obtain ⟨hmem, hmax⟩ := highestOf_spec hy
    obtain ⟨hheld, hlt⟩ := mem_heldBelow.mp hmem
    exact ⟨y, hheld, hlt, fun z hz hzlt => hmax z (mem_heldBelow.mpr ⟨hz, hzlt⟩), hbelow hy⟩
  · have hnone : highestOf ((heldLines e slots).filter (·.line < line)) = none := by
      refine highestOf_eq_none.mpr (List.eq_nil_iff_forall_not_mem.mpr fun y hy => ?_)
      obtain ⟨hheld, hlt⟩ := mem_heldBelow.mp hy
      exact Nat.lt_asymm hlt (hall y hheld)
    obtain ⟨y, hy⟩ := exists_lowestOf (mem_heldAbove.mpr ⟨hx, hall x hx⟩)
    obtain ⟨hmem, hmin⟩ := lowestOf_spec hy
    exact ⟨y, (mem_heldAbove.mp hmem).1, fun z hz => hmin z (mem_heldAbove.mpr ⟨hz, hall z hz⟩), (habove hnone).trans hy⟩

/-- How a tap's pixel is read: as written, or as the last one written, or as the fill colour (R92). -/
theorem tapPixel_rules (fill : Colour) (x : LineSlot) (col : Nat) (h : x.written ≤ x.pixels.length) :
    tapPixel fill none col = fill
    ∧ (col < x.written → x.pixels[col]? = some (tapPixel fill (some x) col))
    ∧ (x.written ≤ col → 0 < x.written → x.pixels[x.written - 1]? = some (tapPixel fill (some x) col))
    ∧ (x.written = 0 → tapPixel fill (some x) col = fill) := by
  have hlength : x.own.length = x.written := by simp [LineSlot.own, h]
  have hat {i : Nat} (hi : i < x.written) : x.pixels[i]? = x.own[i]? := by simp [LineSlot.own, hi]
  refine ⟨rfl, fun hcol => ?_, fun hcol hpos => ?_, fun hzero => ?_⟩
  · rw [hat hcol]
    simp [tapPixel, hlength, hcol]
  · have hlast : x.own[x.written - 1]? = x.own.getLast? := by rw [List.getLast?_eq_getElem?, hlength]
    have hbeyond : x.own[col]? = none := List.getElem?_eq_none (by omega)
    rw [hat (by omega), hlast]
    have hsome : x.own.getLast?.isSome = true := by
      rw [List.getLast?_isSome, ← List.length_pos_iff]
      omega
    obtain ⟨c, hc⟩ := Option.isSome_iff_exists.mp hsome
    simp [tapPixel, hbeyond, hc]
  · have hnil : x.own = [] := List.eq_nil_of_length_eq_zero (hlength.trans hzero)
    simp [tapPixel, hnil]

theorem picturePixelRules : PicturePixelRules := by
  refine ⟨fun phase t0 t1 t2 t3 w hw => ?_, fun e slots line => ?_, tapPixel_rules, fun e slots j x => ⟨rfl, rfl⟩⟩
  · rw [filterTaps_eq, weights_of_table hw]
  · exact ⟨tapSource_of_held, tapSource_of_notArrived, tapSource_of_lost, tapState_held_iff, tapState_notArrived_iff⟩

/-! ### Window pixels (R133, R134, R139, R140) -/

theorem paletteColour_eq (palette : List Colour) (i : Nat) : paletteColour palette i = colourOf palette i := by
  cases i <;> simp [paletteColour, colourOf]

theorem windowPixel_of_image {mem : List Host.Cell} {d : WindowDef} {text : List (List Nat)} {page width height : Nat}
    (h : d.kind = .image page width height) (a b : Nat) :
    windowPixel mem d text a b = if a / d.scale < width ∧ b / d.scale < height then
        colourOf d.palette (halfOf (imageRead (page * 2048 + b / d.scale * ((width + 1) / 2) + a / d.scale / 2) mem)
          (a / d.scale))
      else none := by
  simp only [windowPixel, h, paletteColour_eq]
  rw [← ite_not]
  exact if_congr (by omega) rfl rfl

theorem windowPixel_of_figures_outside {mem : List Host.Cell} {d : WindowDef} {text : List (List Nat)} {base refresh : Nat}
    {sel : List Selector} {a b : Nat} (h : d.kind = .figures base refresh sel)
    (hout : 16 ≤ a / d.scale / 8 ∨ (text.getD (b / d.scale / 16) [])[a / d.scale / 8]? = none) :
    windowPixel mem d text a b = none := by
  simp only [windowPixel, h]
  split
  · rfl
  · next hin => simp only [hout.resolve_left hin]

theorem windowPixel_of_figures {mem : List Host.Cell} {d : WindowDef} {text : List (List Nat)} {base refresh : Nat}
    {sel : List Selector} {a b : Nat} {row : List Nat} {g : Nat} (h : d.kind = .figures base refresh sel)
    (hin : a / d.scale / 8 < 16) (hrow : text[b / d.scale / 16]? = some row) (hg : row[a / d.scale / 8]? = some g) :
    windowPixel mem d text a b = colourOf d.palette
      (halfOf (imageRead (base * 2048 + 64 * g + 4 * (b / d.scale % 16) + a / d.scale % 8 / 2) mem) (a / d.scale % 8)) := by
  simp only [windowPixel, h, paletteColour_eq, List.getD_eq_getElem?_getD, hrow, Option.getD_some, hg]
  exact if_neg (Nat.not_le.mpr hin)

theorem mergePixel_of_definition {mem : List Host.Cell} {w : Window} {d : WindowDef} (h : w.definition = some d)
    (x y : Nat) (pic : Colour) :
    mergePixel mem w x y pic = if d.x ≤ x ∧ x < d.x + d.w then
        ((windowPixel mem d w.text (x - d.x) (y - d.y)).map fun c => blend d.alpha c pic).getD pic
      else pic := by
  simp only [mergePixel, h]
  cases windowPixel mem d w.text (x - d.x) (y - d.y) <;> rfl

theorem windowPixelRules : WindowPixelRules := by
  refine ⟨fun mem d text a b => ?_, fun mem w d x y pic hd => ?_⟩
  · intro u v
    refine ⟨fun h => by simp only [windowPixel, h], fun page width height h => windowPixel_of_image h a b,
      fun base refresh sel h => ⟨fun hout => windowPixel_of_figures_outside h (hout.imp_right fun hv => ?_),
        fun row hu hrow hnil => windowPixel_of_figures_outside h (.inr ?_),
        fun row g hu hrow hg => windowPixel_of_figures h hu hrow hg⟩⟩
    · rw [List.getD_eq_getElem?_getD, List.getElem?_eq_none hv]
      rfl
    · rw [List.getD_eq_getElem?_getD, hrow, hnil]
      rfl
  · intro mixed
    rw [mergePixel_of_definition hd]
    refine ⟨fun hout => if_neg (by omega), fun hnone => ?_, fun c hx hx' hc => ?_⟩
    · rw [hnone]
      exact ite_self _
    · rw [hc, if_pos ⟨hx, hx'⟩]
      rfl

/-! ### Blending (R134) -/

theorem blendComponent_le {alpha ov pic : Nat} (ha : alpha ≤ 16) (hov : ov ≤ 1023) (hpic : pic ≤ 1023) :
    blendComponent alpha ov pic ≤ 1023 := by
  have h1 : alpha * ov ≤ alpha * 1023 := Nat.mul_le_mul_left alpha hov
  have h2 : (16 - alpha) * pic ≤ (16 - alpha) * 1023 := Nat.mul_le_mul_left (16 - alpha) hpic
  unfold blendComponent
  omega

/-! ### Lines sent (R113, R182) -/

/-- The transfer of four pixels of a line (R182). -/
theorem transfersOf_getElem? {px : List Colour} {n : Nat} (h : 4 * n + 4 ≤ px.length) :
    ∃ x, (transfersOf px)[n]? = some x ∧ x.dataEnable = true ∧ px[4 * n]? = some x.d0
      ∧ px[4 * n + 1]? = some x.d1 ∧ px[4 * n + 2]? = some x.d2 ∧ px[4 * n + 3]? = some x.d3 := by
  induction n generalizing px with
  | zero =>
    match px, h with
    | a :: b :: c :: d :: rest, _ => exact ⟨⟨true, a, b, c, d⟩, rfl, rfl, rfl, rfl, rfl, rfl⟩
  | succ n ih =>
    match px, h with
    | a :: b :: c :: d :: rest, h =>
      simp only [List.length_cons] at h
      exact ih (px := rest) (by omega)

theorem transfersOf_length (px : List Colour) : (transfersOf px).length = px.length / 4 := by
  induction px using transfersOf.induct with
  | case1 a b c d rest ih =>
    simp only [transfersOf, List.length_cons, ih]
    omega
  | case2 px hpx =>
    match px, hpx with
    | [], _ => rfl
    | [_], _ | [_, _], _ | [_, _, _], _ => simp [transfersOf]
    | a :: b :: c :: d :: rest, hpx => exact (hpx a b c d rest rfl).elim

theorem transferRules : TransferRules := by
  intro o n
  refine ⟨fun hde hn => ?_, fun hlow => ?_⟩
  · obtain ⟨x, hx, hrules⟩ := transfersOf_getElem? hn
    have htransfer : o.transfer n = x := by simp [PanelOut.transfer, hde, hx]
    rw [htransfer]
    exact hrules
  · unfold PanelOut.transfer
    split
    · next hde =>
      have hn : o.line.length < 4 * n + 4 := hlow.resolve_left (by simp [hde])
      have hnone : (transfersOf o.line)[n]? = none := List.getElem?_eq_none (by rw [transfersOf_length]; omega)
      simp [hnone]
      rfl
    · rfl

/-- Settles O55: the rules of storing, filtering, windows and sending, and then the bounds. -/
theorem componentsStayInRange : Obligations.ComponentsStayInRange := by
  refine ⟨storedPixelRules, picturePixelRules, windowPixelRules, transferRules, fun wires => ?_,
    fun phase t0 t1 t2 t3 => ⟨filterTaps_le phase t0 t1 t2 t3, fun h => filterTaps_zero h t0 t2 t3,
      fun h => filterTaps_same h phase⟩,
    fun alpha ov pic ha hov hpic => ⟨blendComponent_le ha hov hpic, ?_, ?_⟩⟩
  · have hlt := wires.isLt
    have hdiv : wires.toNat / 4 / 64 = wires.toNat / 256 := Nat.div_div_eq_div_mul _ 4 64
    refine ⟨widen_d8_le wires, widen_d10_le wires, ?_, ?_⟩ <;> simp only [widen] <;> omega
  · simp only [blendComponent]
    omega
  · simp only [blendComponent]
    omega

end Sys2Proof.Proofs.Pixels
end
